-- ==== Sys2Proof/Word.lean ====
section
/-! DEFINITION. The word types of the block: bytes, 64-bit words, command headers, and the fixed-size groups of them
that R6 (00_scope.md) names. -/

namespace Sys2Proof

/-- One byte (R9). -/
abbrev Byte := BitVec 8

/-- One 64-bit word: WORD_BITS (R6) and DATA_BITS (R7). -/
abbrev Word := BitVec 64

/-- A command header: HDR_BITS (R7). -/
abbrev Header := BitVec 16

/-- The 256-bit length counter's value: LENGTH_BITS (R6). -/
abbrev Length := BitVec 256

/-- Eight 64-bit words: STATE_WORDS (R6). HashState, the key schedule, the cipher state and the parsed block. -/
abbrev Words := Vector Word 8

/-- A 64-byte block: BLOCK_BYTES (R6). -/
abbrev Block := Vector Byte 64

/-- One command as it crosses the command port: a 16-bit header and a 64-bit data operand, transferred together (R49). -/
structure Command where
  hdr  : Header
  data : Word
  deriving DecidableEq, Repr

end Sys2Proof
end

