-- ==== Sys2Proof/Syntax.lean ====
section
/-! DEFINITION. The commands of the block: one constructor per row of the opcode map (R52, 30_encoding.md). -/

namespace Sys2Proof

/-- A decoded command with the operands it uses. Fields a command does not use are 0 in its header (R53), and the data
operand of a command that ignores it (R51) is not part of the command. -/
inductive Instr where
  /-- INIT (R80). -/
  | init
  /-- ABSORB cnt, data (R81). -/
  | absorb (cnt : BitVec 4) (data : Word)
  /-- FINAL (R83). -/
  | final
  /-- RDDIG idx (R87). -/
  | rddig (idx : BitVec 3)
  /-- RDSTAT (R88). -/
  | rdstat
  /-- RDLEN idx (R89). -/
  | rdlen (idx : BitVec 3)
  /-- WRLEN idx, data (R90). -/
  | wrlen (idx : BitVec 3) (data : Word)
  deriving DecidableEq, Repr

end Sys2Proof
end

