-- ==== Sys2Proof/WellFormed.lean ====
section
/-! DEFINITION. Which operand values are legal (R51, 30_encoding.md). -/

namespace Sys2Proof

/-- R51: ABSORB's byte count is 0..8, the word index of RDLEN and WRLEN is 0..3; every other operand value is legal. -/
def Instr.wf : Instr → Bool
  | .init => true
  | .absorb cnt _ => decide (cnt.toNat ≤ 8)
  | .final => true
  | .rddig _ => true
  | .rdstat => true
  | .rdlen idx => decide (idx.toNat ≤ 3)
  | .wrlen idx _ => decide (idx.toNat ≤ 3)

end Sys2Proof
end

