-- ==== Sys2Proof/Decode.lean ====
section
/-! DEFINITION. The header's fields (R50), decoding (R54), encoding (R50, R52), and the host's numbering of a command's bits. -/

namespace Sys2Proof

/-- `op`, header bits 15:12 (R50). -/
def opOf (hdr : Header) : BitVec 4 := hdr.extractLsb' 12 4

/-- `cnt`, header bits 11:8 (R50). -/
def cntOf (hdr : Header) : BitVec 4 := hdr.extractLsb' 8 4

/-- `idx`, header bits 7:5 (R50). -/
def idxOf (hdr : Header) : BitVec 3 := hdr.extractLsb' 5 3

/-- `rsv`, header bits 4:0 (R50). -/
def rsvOf (hdr : Header) : BitVec 5 := hdr.extractLsb' 0 5

/-- Why a header is illegal (R54); the error codes 1, 2, 3 of R91 in this order. -/
inductive Illegal where
  /-- ILLEGAL_OPCODE: op is 0x0 or 0x8..0xF. -/
  | opcode
  /-- ILLEGAL_RESERVED: rsv, or a field the command does not use, is not 0 (R53). -/
  | reserved
  /-- ILLEGAL_OPERAND: ABSORB cnt 9..15, or RDLEN or WRLEN idx 4..7. -/
  | operand
  deriving DecidableEq, Repr

/-- The result of decoding (R54): a legal command, or the reason it is illegal. -/
inductive Decoded where
  | legal (i : Instr)
  | illegal (why : Illegal)
  deriving DecidableEq, Repr

/-- The command an opcode of R52 stands for, with the operands it uses. -/
def commandOf (op : Nat) (cnt : BitVec 4) (idx : BitVec 3) (data : Word) : Decoded :=
  match op with
  | 1 => .legal .init
  | 2 => .legal (.absorb cnt data)
  | 3 => .legal .final
  | 4 => .legal (.rddig idx)
  | 5 => .legal .rdstat
  | 6 => .legal (.rdlen idx)
  | 7 => .legal (.wrlen idx data)
  | _ => .illegal .opcode

/-- Decoding (R54): total, reads no state; its checks run in the order of the rule and the first that fails decides. -/
def decode (hdr : Header) (data : Word) : Decoded :=
  let op := (opOf hdr).toNat
  let cnt := cntOf hdr
  let idx := idxOf hdr
  if op = 0 ∨ 7 < op then .illegal .opcode
  else if rsvOf hdr ≠ 0 then .illegal .reserved
  else if (op = 1 ∨ op = 3 ∨ op = 5) ∧ (cnt ≠ 0 ∨ idx ≠ 0) then .illegal .reserved
  else if op = 2 ∧ idx ≠ 0 then .illegal .reserved
  else if (op = 4 ∨ op = 6 ∨ op = 7) ∧ cnt ≠ 0 then .illegal .reserved
  else if op = 2 ∧ 8 < cnt.toNat then .illegal .operand
  else if (op = 6 ∨ op = 7) ∧ 3 < idx.toNat then .illegal .operand
  else commandOf op cnt idx data

/-- Opcodes (R52). -/
def opcode : Instr → BitVec 4
  | .init => 1
  | .absorb _ _ => 2
  | .final => 3
  | .rddig _ => 4
  | .rdstat => 5
  | .rdlen _ => 6
  | .wrlen _ _ => 7

/-- The `cnt` field of a command's header; 0 where the command does not use it (R53). -/
def cntField : Instr → BitVec 4
  | .absorb cnt _ => cnt
  | .init | .final | .rddig _ | .rdstat | .rdlen _ | .wrlen _ _ => 0

/-- The `idx` field of a command's header; 0 where the command does not use it (R53). -/
def idxField : Instr → BitVec 3
  | .rddig idx => idx
  | .rdlen idx => idx
  | .wrlen idx _ => idx
  | .init | .absorb _ _ | .final | .rdstat => 0

/-- The data operand a command is emitted with; 0 for a command without one (R57). -/
def dataField : Instr → Word
  | .absorb _ data => data
  | .wrlen _ data => data
  | .init | .final | .rddig _ | .rdstat | .rdlen _ => 0

/-- `hdr = op ‖ cnt ‖ idx ‖ rsv` (R50). -/
def headerOf (op cnt : BitVec 4) (idx : BitVec 3) (rsv : BitVec 5) : Header := op ++ cnt ++ idx ++ rsv

/-- The encoding of a command: its header with every unused field 0, and its data operand (R50, R52, R53). -/
def encode (i : Instr) : Command :=
  { hdr := headerOf (opcode i) (cntField i) (idxField i) 0, data := dataField i }

/-- A command from its bits as spec/opcode_table.json numbers them: the header is bits 15..0, the data operand bits 79..16,
and every bit from `nbits` up is 0 (log entry 14). -/
def commandOfTableWord (nbits w : Nat) : Command :=
  { hdr := BitVec.ofNat 16 (w % 2 ^ nbits), data := BitVec.ofNat 64 (w % 2 ^ nbits / 2 ^ 16) }

/-- What `decode` reads from a table row's bits; none where it refuses them. -/
def decodeTableWord (nbits w : Nat) : Option Instr :=
  match decode (commandOfTableWord nbits w).hdr (commandOfTableWord nbits w).data with
  | .legal i => some i
  | .illegal _ => none

end Sys2Proof
end

