-- ==== Sys2Proof/Machine/State.lean ====
section
/-! DEFINITION. The state of one instance of the block (10_state.md, R16 to R24), with the ports of R48, as plain data; the
outcomes' reasons; and the state after reset (R31, R99). -/

namespace Sys2Proof.Machine

/-- PHASE, the accumulator's sequencing state (R21). The 2-bit value 3 is never held, so it has no constructor. -/
inductive Phase where
  /-- 0: the message is being absorbed. -/
  | absorb
  /-- 1: FINAL has run and the digest is in H. -/
  | done
  /-- 2: a command was rejected as an error. -/
  | error
  deriving DecidableEq, Repr

/-- The error codes 0 to 8 (R91). -/
inductive ErrorCode where
  | none
  | illegalOpcode
  | illegalReserved
  | illegalOperand
  | updateAfterFinal
  | finalTwice
  | digestBeforeFinal
  | wrlenAfterFinal
  | rejectedInError
  deriving DecidableEq, Repr

/-- One response, `(rsp_err, rsp_data)` (R48, R56). -/
structure Response where
  err  : Bool
  data : Word
  deriving DecidableEq, Repr

/-- What the host does at the block's ports (R15, R48, R99). -/
inductive HostAction where
  /-- The host presents this command and holds it until the block accepts it (R48, R102). -/
  | command (c : Command)
  /-- The host waits for the response of the command in progress before it acts again (R44). -/
  | await
  /-- The host asserts the reset input `rst`, and holds it asserted until it releases it (R99). -/
  | assertRst
  /-- The host releases `rst` (R99). -/
  | releaseRst
  deriving DecidableEq, Repr

/-- The Compression Core's micro-state while it compresses a block (R24). -/
structure CoreRegs where
  /-- CK[0..7], the key schedule K. -/
  ck : Words
  /-- CS[0..7], the cipher state S. -/
  cs : Words
  /-- CB[0..7], the block words B, latched at LOAD for the feed-forward. -/
  cb : Words
  /-- CR, the number of rounds completed, 0..10. -/
  cr : BitVec 4
  deriving DecidableEq, Repr

/-- The state of one instance of the block and of its ports. -/
@[ext]
structure State where
  /-- HashState H[0..7] (R16). -/
  hash    : Words
  /-- LengthCounter L (R17). -/
  len     : Length
  /-- PartialBlockBuffer BUF[0..63] (R19). -/
  buf     : Block
  /-- Buffer count NB, a 6-bit count of the bytes in BUF (R20). -/
  nb      : Fin 64
  /-- PHASE (R21). -/
  phase   : Phase
  /-- ERRCODE (R22). -/
  errCode : ErrorCode
  /-- BUSY: 1 from the acceptance of a command to its response (R23). -/
  busy    : Bool
  /-- The level of the reset input `rst`: true while the host holds it asserted (R99). -/
  rst     : Bool
  /-- The Compression Core's micro-state CK, CS, CB, CR (R24). -/
  core    : CoreRegs
  /-- The header of the command in progress; meaningful while `busy` (R23, R48). -/
  curHdr  : Header
  /-- The data operand of the command in progress; meaningful while `busy` (R23, R48). -/
  curData : Word
  /-- What the host does next at the ports, next action first (log entry 1). -/
  pending : List HostAction
  /-- The responses emitted so far, oldest first (R43, R56; log entry 3). -/
  rsps    : List Response
  deriving DecidableEq, Repr

/-- Why the machine stops with a fault: never. The block records every error (R93) and goes on, so there is no constructor,
nothing raises one, and the type is safe. -/
inductive Fault where
  deriving DecidableEq, Repr

/-- Why an instruction has no meaning. -/
inductive Refusal where
  /-- Raised only by an arm of `exec` whose instruction has no meaning yet; none has it in this model. Safe: the machine
  stops where the block goes on. -/
  | notModelled (mnemonic : String)
  deriving DecidableEq, Repr

/-- The state after reset, `rst` asserted and released (R31, R99). The core's micro-state (log entry 5), the command latch (log entry 8) and the two
lists (log entries 1, 3) have no reset value in the spec: DESIGN CHOICE, zero and empty. -/
def State.reset : State where
  hash    := Vector.replicate 8 0
  len     := 0
  buf     := Vector.replicate 64 0
  nb      := 0
  phase   := .absorb
  errCode := .none
  busy    := false
  rst     := false
  core    := { ck := Vector.replicate 8 0, cs := Vector.replicate 8 0, cb := Vector.replicate 8 0, cr := 0 }
  curHdr  := 0
  curData := 0
  pending := []
  rsps    := []

end Sys2Proof.Machine
end

