-- ==== Sys2Proof/Machine/Operands.lean ====
section
/-! DEFINITION. The operand forms and byte-order views: bytes of a word (R10), the block parsed into words (R34), ABSORB's
data bytes (R37), the digest's words and bytes (R35), and the byte and word views of the length counter (R17). -/

namespace Sys2Proof.Machine

/-- `byte_k(w) = w[63-8k : 56-8k]`, byte 0 most significant (R10). -/
def byteOf (w : Word) (k : Nat) : Byte := w.extractLsb' (56 - 8 * k) 8

/-- `be64(b0, ..., b7) = b0 ‖ b1 ‖ ... ‖ b7` (R10). -/
def be64 (b0 b1 b2 b3 b4 b5 b6 b7 : Byte) : Word := b0 ++ b1 ++ b2 ++ b3 ++ b4 ++ b5 ++ b6 ++ b7

/-- `B[i] = be64(BUF[8i], ..., BUF[8i + 7])` (R34). -/
def blockWord (blk : Block) (i : Fin 8) : Word :=
  be64 blk[8 * i.val] blk[8 * i.val + 1] blk[8 * i.val + 2] blk[8 * i.val + 3]
    blk[8 * i.val + 4] blk[8 * i.val + 5] blk[8 * i.val + 6] blk[8 * i.val + 7]

/-- The block parsed into eight big-endian words (R34). -/
def blockWords (blk : Block) : Words := Vector.ofFn (blockWord blk)

/-- ABSORB's message bytes: `byte_0(data)` to `byte_(cnt-1)(data)`, in order (R37, R51). -/
def chunkBytes (cnt : BitVec 4) (data : Word) : List Byte := (List.range cnt.toNat).map (byteOf data)

/-- The word an `idx` field selects from H; every value 0..7 is legal (R51). -/
def selectWord (ws : Words) (idx : BitVec 3) : Word := ws[idx.toNat]'(idx.isLt)

/-- Digest byte `D[8i + k] = byte_k(H[i])`, all 64 in order (R35). -/
def digestBytes (h : Words) : List Byte :=
  h.toList.flatMap fun w => (List.range 8).map (byteOf w)

/-- `LB[i] = L[255-8i : 248-8i]` (R17). -/
def lenByte (l : Length) (i : Nat) : Byte := l.extractLsb' (248 - 8 * i) 8

/-- The 32 bytes of the length counter, most significant first (R17, R36). -/
def lenBytes (l : Length) : List Byte := (List.range 32).map (lenByte l)

/-- `LW[w] = L[255-64w : 192-64w]` (R17). -/
def lenWord (l : Length) (w : Nat) : Word := l.extractLsb' (192 - 64 * w) 64

/-- `LW[w] <- data`, the other words unchanged (R90). -/
def setLenWord (l : Length) (w : Nat) (data : Word) : Length :=
  let word := fun k => if k = w then data else lenWord l k
  word 0 ++ word 1 ++ word 2 ++ word 3

end Sys2Proof.Machine
end

