-- ==== Sys2Proof/Machine/Tables.lean ====
section
/-! DEFINITION. The S-box, GF(2^8) multiplication, the diffusion tables C_0..C_7 and the round constants RC[0..9]
(40_diffusion_tables.md). The spec supplies these values from general knowledge (log entry 11). -/

namespace Sys2Proof.Machine

/-- Row 0 of the table of R59. -/
def sboxRow0 : List Byte :=
  [0x18, 0x23, 0xc6, 0xe8, 0x87, 0xb8, 0x01, 0x4f, 0x36, 0xa6, 0xd2, 0xf5, 0x79, 0x6f, 0x91, 0x52]

/-- Row 1 of the table of R59. -/
def sboxRow1 : List Byte :=
  [0x60, 0xbc, 0x9b, 0x8e, 0xa3, 0x0c, 0x7b, 0x35, 0x1d, 0xe0, 0xd7, 0xc2, 0x2e, 0x4b, 0xfe, 0x57]

/-- Row 2 of the table of R59. -/
def sboxRow2 : List Byte :=
  [0x15, 0x77, 0x37, 0xe5, 0x9f, 0xf0, 0x4a, 0xda, 0x58, 0xc9, 0x29, 0x0a, 0xb1, 0xa0, 0x6b, 0x85]

/-- Row 3 of the table of R59. -/
def sboxRow3 : List Byte :=
  [0xbd, 0x5d, 0x10, 0xf4, 0xcb, 0x3e, 0x05, 0x67, 0xe4, 0x27, 0x41, 0x8b, 0xa7, 0x7d, 0x95, 0xd8]

/-- Row 4 of the table of R59. -/
def sboxRow4 : List Byte :=
  [0xfb, 0xee, 0x7c, 0x66, 0xdd, 0x17, 0x47, 0x9e, 0xca, 0x2d, 0xbf, 0x07, 0xad, 0x5a, 0x83, 0x33]

/-- Row 5 of the table of R59. -/
def sboxRow5 : List Byte :=
  [0x63, 0x02, 0xaa, 0x71, 0xc8, 0x19, 0x49, 0xd9, 0xf2, 0xe3, 0x5b, 0x88, 0x9a, 0x26, 0x32, 0xb0]

/-- Row 6 of the table of R59. -/
def sboxRow6 : List Byte :=
  [0xe9, 0x0f, 0xd5, 0x80, 0xbe, 0xcd, 0x34, 0x48, 0xff, 0x7a, 0x90, 0x5f, 0x20, 0x68, 0x1a, 0xae]

/-- Row 7 of the table of R59. -/
def sboxRow7 : List Byte :=
  [0xb4, 0x54, 0x93, 0x22, 0x64, 0xf1, 0x73, 0x12, 0x40, 0x08, 0xc3, 0xec, 0xdb, 0xa1, 0x8d, 0x3d]

/-- Row 8 of the table of R59. -/
def sboxRow8 : List Byte :=
  [0x97, 0x00, 0xcf, 0x2b, 0x76, 0x82, 0xd6, 0x1b, 0xb5, 0xaf, 0x6a, 0x50, 0x45, 0xf3, 0x30, 0xef]

/-- Row 9 of the table of R59. -/
def sboxRow9 : List Byte :=
  [0x3f, 0x55, 0xa2, 0xea, 0x65, 0xba, 0x2f, 0xc0, 0xde, 0x1c, 0xfd, 0x4d, 0x92, 0x75, 0x06, 0x8a]

/-- Row a of the table of R59. -/
def sboxRowA : List Byte :=
  [0xb2, 0xe6, 0x0e, 0x1f, 0x62, 0xd4, 0xa8, 0x96, 0xf9, 0xc5, 0x25, 0x59, 0x84, 0x72, 0x39, 0x4c]

/-- Row b of the table of R59. -/
def sboxRowB : List Byte :=
  [0x5e, 0x78, 0x38, 0x8c, 0xd1, 0xa5, 0xe2, 0x61, 0xb3, 0x21, 0x9c, 0x1e, 0x43, 0xc7, 0xfc, 0x04]

/-- Row c of the table of R59. -/
def sboxRowC : List Byte :=
  [0x51, 0x99, 0x6d, 0x0d, 0xfa, 0xdf, 0x7e, 0x24, 0x3b, 0xab, 0xce, 0x11, 0x8f, 0x4e, 0xb7, 0xeb]

/-- Row d of the table of R59. -/
def sboxRowD : List Byte :=
  [0x3c, 0x81, 0x94, 0xf7, 0xb9, 0x13, 0x2c, 0xd3, 0xe7, 0x6e, 0xc4, 0x03, 0x56, 0x44, 0x7f, 0xa9]

/-- Row e of the table of R59. -/
def sboxRowE : List Byte :=
  [0x2a, 0xbb, 0xc1, 0x53, 0xdc, 0x0b, 0x9d, 0x6c, 0x31, 0x74, 0xf6, 0x46, 0xac, 0x89, 0x14, 0xe1]

/-- Row f of the table of R59. -/
def sboxRowF : List Byte :=
  [0x16, 0x3a, 0x69, 0x09, 0x70, 0xb6, 0xd0, 0xed, 0xcc, 0x42, 0x98, 0xa4, 0x28, 0x5c, 0xf8, 0x86]

/-- The rows of R59, row h holding `S[16h]` to `S[16h + 15]`. -/
def sboxRows : List (List Byte) :=
  [sboxRow0, sboxRow1, sboxRow2, sboxRow3, sboxRow4, sboxRow5, sboxRow6, sboxRow7] ++
  [sboxRow8, sboxRow9, sboxRowA, sboxRowB, sboxRowC, sboxRowD, sboxRowE, sboxRowF]

/-- The S-box: `S[16h + l]` is row h, column l (R59). -/
def sbox (x : Byte) : Byte := (sboxRows.getD (x.toNat / 16) []).getD (x.toNat % 16) 0

/-- The mini-box E of R60. -/
def miniE : List (BitVec 4) := [0x1, 0xB, 0x9, 0xC, 0xD, 0x6, 0xF, 0x3, 0xE, 0x8, 0x7, 0x4, 0xA, 0x2, 0x5, 0x0]

/-- The mini-box R of R60. -/
def miniR : List (BitVec 4) := [0x7, 0xC, 0xB, 0xD, 0xE, 0x4, 0x9, 0xF, 0x6, 0x3, 0x8, 0xA, 0x2, 0x5, 0x1, 0x0]

/-- `E[u]` (R60). -/
def miniBoxE (u : BitVec 4) : BitVec 4 := miniE.getD u.toNat 0

/-- `Einv[u]`, the inverse permutation of E (R60): the place of `u` in E. -/
def miniBoxEinv (u : BitVec 4) : BitVec 4 := BitVec.ofNat 4 (miniE.idxOf u)

/-- `R[u]` (R60). -/
def miniBoxR (u : BitVec 4) : BitVec 4 := miniR.getD u.toNat 0

/-- The construction of the S-box from the three mini-boxes (R60). -/
def sboxFromMiniBoxes (u : Byte) : Byte :=
  let a := miniBoxE (u.extractLsb' 4 4)
  let b := miniBoxEinv (u.extractLsb' 0 4)
  let t := miniBoxR (a ^^^ b)
  miniBoxE (a ^^^ t) ++ miniBoxEinv (b ^^^ t)

/-- The loop of `gmul` (R61), `n` iterations from `p`, `a`, `b`. -/
def gmulLoop : Nat → Byte → Byte → Byte → Byte
  | 0, p, _, _ => p
  | n + 1, p, a, b =>
    gmulLoop n (if b.getLsbD 0 then p ^^^ a else p) (if a.getLsbD 7 then (a <<< 1) ^^^ 0x1D else a <<< 1) (b >>> 1)

/-- Multiplication in GF(2^8) modulo x^8 + x^4 + x^3 + x^2 + 1 (R61). -/
def gmul (a b : Byte) : Byte := gmulLoop 8 0 a b

/-- Table C_0: the S-box output times the row (1, 1, 4, 1, 8, 5, 2, 9), byte 0 first (R62). -/
def tableC0 (x : Byte) : Word :=
  let s := sbox x
  be64 s s (gmul s 4) s (gmul s 8) (gmul s 5) (gmul s 2) (gmul s 9)

/-- `Rom_C(k, x) = C_k[x] = ROTR64(C_0[x], 8k)` (R63, R66). -/
def romC (k : Nat) (x : Byte) : Word := (tableC0 x).rotateRight (8 * k)

/-- `Rom_RC(r) = RC[r] = be64(S[8r], ..., S[8r + 7])` (R65, R66). -/
def romRC (r : Nat) : Word :=
  let s := fun k => sbox (BitVec.ofNat 8 (8 * r + k))
  be64 (s 0) (s 1) (s 2) (s 3) (s 4) (s 5) (s 6) (s 7)

/-- The listing of R64, values 00 to 1f. -/
def listingC0_0 : List Word :=
  [0x18186018c07830d8, 0x23238c2305af4626, 0xc6c63fc67ef991b8, 0xe8e887e8136fcdfb] ++
  [0x878726874ca113cb, 0xb8b8dab8a9626d11, 0x0101040108050209, 0x4f4f214f426e9e0d] ++
  [0x3636d836adee6c9b, 0xa6a6a2a6590451ff, 0xd2d26fd2debdb90c, 0xf5f5f3f5fb06f70e] ++
  [0x7979f979ef80f296, 0x6f6fa16f5fcede30, 0x91917e91fcef3f6d, 0x52525552aa07a4f8] ++
  [0x60609d6027fdc047, 0xbcbccabc89766535, 0x9b9b569baccd2b37, 0x8e8e028e048c018a] ++
  [0xa3a3b6a371155bd2, 0x0c0c300c603c186c, 0x7b7bf17bff8af684, 0x3535d435b5e16a80] ++
  [0x1d1d741de8693af5, 0xe0e0a7e05347ddb3, 0xd7d77bd7f6acb321, 0xc2c22fc25eed999c] ++
  [0x2e2eb82e6d965c43, 0x4b4b314b627a9629, 0xfefedffea321e15d, 0x575741578216aed5]

/-- The listing of R64, values 20 to 3f. -/
def listingC0_1 : List Word :=
  [0x15155415a8412abd, 0x7777c1779fb6eee8, 0x3737dc37a5eb6e92, 0xe5e5b3e57b56d79e] ++
  [0x9f9f469f8cd92313, 0xf0f0e7f0d317fd23, 0x4a4a354a6a7f9420, 0xdada4fda9e95a944] ++
  [0x58587d58fa25b0a2, 0xc9c903c906ca8fcf, 0x2929a429558d527c, 0x0a0a280a5022145a] ++
  [0xb1b1feb1e14f7f50, 0xa0a0baa0691a5dc9, 0x6b6bb16b7fdad614, 0x85852e855cab17d9] ++
  [0xbdbdcebd8173673c, 0x5d5d695dd234ba8f, 0x1010401080502090, 0xf4f4f7f4f303f507] ++
  [0xcbcb0bcb16c08bdd, 0x3e3ef83eedc67cd3, 0x0505140528110a2d, 0x676781671fe6ce78] ++
  [0xe4e4b7e47353d597, 0x27279c2725bb4e02, 0x4141194132588273, 0x8b8b168b2c9d0ba7] ++
  [0xa7a7a6a7510153f6, 0x7d7de97dcf94fab2, 0x95956e95dcfb3749, 0xd8d847d88e9fad56]

/-- The listing of R64, values 40 to 5f. -/
def listingC0_2 : List Word :=
  [0xfbfbcbfb8b30eb70, 0xeeee9fee2371c1cd, 0x7c7ced7cc791f8bb, 0x6666856617e3cc71] ++
  [0xdddd53dda68ea77b, 0x17175c17b84b2eaf, 0x4747014702468e45, 0x9e9e429e84dc211a] ++
  [0xcaca0fca1ec589d4, 0x2d2db42d75995a58, 0xbfbfc6bf9179632e, 0x07071c07381b0e3f] ++
  [0xadad8ead012347ac, 0x5a5a755aea2fb4b0, 0x838336836cb51bef, 0x3333cc3385ff66b6] ++
  [0x636391633ff2c65c, 0x02020802100a0412, 0xaaaa92aa39384993, 0x7171d971afa8e2de] ++
  [0xc8c807c80ecf8dc6, 0x19196419c87d32d1, 0x494939497270923b, 0xd9d943d9869aaf5f] ++
  [0xf2f2eff2c31df931, 0xe3e3abe34b48dba8, 0x5b5b715be22ab6b9, 0x88881a8834920dbc] ++
  [0x9a9a529aa4c8293e, 0x262698262dbe4c0b, 0x3232c8328dfa64bf, 0xb0b0fab0e94a7d59]

/-- The listing of R64, values 60 to 7f. -/
def listingC0_3 : List Word :=
  [0xe9e983e91b6acff2, 0x0f0f3c0f78331e77, 0xd5d573d5e6a6b733, 0x80803a8074ba1df4] ++
  [0xbebec2be997c6127, 0xcdcd13cd26de87eb, 0x3434d034bde46889, 0x48483d487a759032] ++
  [0xffffdbffab24e354, 0x7a7af57af78ff48d, 0x90907a90f4ea3d64, 0x5f5f615fc23ebe9d] ++
  [0x202080201da0403d, 0x6868bd6867d5d00f, 0x1a1a681ad07234ca, 0xaeae82ae192c41b7] ++
  [0xb4b4eab4c95e757d, 0x54544d549a19a8ce, 0x93937693ece53b7f, 0x222288220daa442f] ++
  [0x64648d6407e9c863, 0xf1f1e3f1db12ff2a, 0x7373d173bfa2e6cc, 0x12124812905a2482] ++
  [0x40401d403a5d807a, 0x0808200840281048, 0xc3c32bc356e89b95, 0xecec97ec337bc5df] ++
  [0xdbdb4bdb9690ab4d, 0xa1a1bea1611f5fc0, 0x8d8d0e8d1c830791, 0x3d3df43df5c97ac8]

/-- The listing of R64, values 80 to 9f. -/
def listingC0_4 : List Word :=
  [0x97976697ccf1335b, 0x0000000000000000, 0xcfcf1bcf36d483f9, 0x2b2bac2b4587566e] ++
  [0x7676c57697b3ece1, 0x8282328264b019e6, 0xd6d67fd6fea9b128, 0x1b1b6c1bd87736c3] ++
  [0xb5b5eeb5c15b7774, 0xafaf86af112943be, 0x6a6ab56a77dfd41d, 0x50505d50ba0da0ea] ++
  [0x45450945124c8a57, 0xf3f3ebf3cb18fb38, 0x3030c0309df060ad, 0xefef9bef2b74c3c4] ++
  [0x3f3ffc3fe5c37eda, 0x55554955921caac7, 0xa2a2b2a2791059db, 0xeaea8fea0365c9e9] ++
  [0x656589650fecca6a, 0xbabad2bab9686903, 0x2f2fbc2f65935e4a, 0xc0c027c04ee79d8e] ++
  [0xdede5fdebe81a160, 0x1c1c701ce06c38fc, 0xfdfdd3fdbb2ee746, 0x4d4d294d52649a1f] ++
  [0x92927292e4e03976, 0x7575c9758fbceafa, 0x06061806301e0c36, 0x8a8a128a249809ae]

/-- The listing of R64, values a0 to bf. -/
def listingC0_5 : List Word :=
  [0xb2b2f2b2f940794b, 0xe6e6bfe66359d185, 0x0e0e380e70361c7e, 0x1f1f7c1ff8633ee7] ++
  [0x6262956237f7c455, 0xd4d477d4eea3b53a, 0xa8a89aa829324d81, 0x96966296c4f43152] ++
  [0xf9f9c3f99b3aef62, 0xc5c533c566f697a3, 0x2525942535b14a10, 0x59597959f220b2ab] ++
  [0x84842a8454ae15d0, 0x7272d572b7a7e4c5, 0x3939e439d5dd72ec, 0x4c4c2d4c5a619816] ++
  [0x5e5e655eca3bbc94, 0x7878fd78e785f09f, 0x3838e038ddd870e5, 0x8c8c0a8c14860598] ++
  [0xd1d163d1c6b2bf17, 0xa5a5aea5410b57e4, 0xe2e2afe2434dd9a1, 0x616199612ff8c24e] ++
  [0xb3b3f6b3f1457b42, 0x2121842115a54234, 0x9c9c4a9c94d62508, 0x1e1e781ef0663cee] ++
  [0x4343114322528661, 0xc7c73bc776fc93b1, 0xfcfcd7fcb32be54f, 0x0404100420140824]

/-- The listing of R64, values c0 to df. -/
def listingC0_6 : List Word :=
  [0x51515951b208a2e3, 0x99995e99bcc72f25, 0x6d6da96d4fc4da22, 0x0d0d340d68391a65] ++
  [0xfafacffa8335e979, 0xdfdf5bdfb684a369, 0x7e7ee57ed79bfca9, 0x242490243db44819] ++
  [0x3b3bec3bc5d776fe, 0xabab96ab313d4b9a, 0xcece1fce3ed181f0, 0x1111441188552299] ++
  [0x8f8f068f0c890383, 0x4e4e254e4a6b9c04, 0xb7b7e6b7d1517366, 0xebeb8beb0b60cbe0] ++
  [0x3c3cf03cfdcc78c1, 0x81813e817cbf1ffd, 0x94946a94d4fe3540, 0xf7f7fbf7eb0cf31c] ++
  [0xb9b9deb9a1676f18, 0x13134c13985f268b, 0x2c2cb02c7d9c5851, 0xd3d36bd3d6b8bb05] ++
  [0xe7e7bbe76b5cd38c, 0x6e6ea56e57cbdc39, 0xc4c437c46ef395aa, 0x03030c03180f061b] ++
  [0x565645568a13acdc, 0x44440d441a49885e, 0x7f7fe17fdf9efea0, 0xa9a99ea921374f88]

/-- The listing of R64, values e0 to ff. -/
def listingC0_7 : List Word :=
  [0x2a2aa82a4d825467, 0xbbbbd6bbb16d6b0a, 0xc1c123c146e29f87, 0x53535153a202a6f1] ++
  [0xdcdc57dcae8ba572, 0x0b0b2c0b58271653, 0x9d9d4e9d9cd32701, 0x6c6cad6c47c1d82b] ++
  [0x3131c43195f562a4, 0x7474cd7487b9e8f3, 0xf6f6fff6e309f115, 0x464605460a438c4c] ++
  [0xacac8aac092645a5, 0x89891e893c970fb5, 0x14145014a04428b4, 0xe1e1a3e15b42dfba] ++
  [0x16165816b04e2ca6, 0x3a3ae83acdd274f7, 0x6969b9696fd0d206, 0x09092409482d1241] ++
  [0x7070dd70a7ade0d7, 0xb6b6e2b6d954716f, 0xd0d067d0ceb7bd1e, 0xeded93ed3b7ec7d6] ++
  [0xcccc17cc2edb85e2, 0x424215422a578468, 0x98985a98b4c22d2c, 0xa4a4aaa4490e55ed] ++
  [0x2828a0285d885075, 0x5c5c6d5cda31b886, 0xf8f8c7f8933fed6b, 0x8686228644a411c2]

/-- The 256 values of C_0 as R64 lists them; they must agree with `tableC0`. -/
def listingC0 : List Word :=
  listingC0_0 ++ listingC0_1 ++ listingC0_2 ++ listingC0_3 ++ listingC0_4 ++ listingC0_5 ++ listingC0_6 ++ listingC0_7

end Sys2Proof.Machine
end

