-- ==== Sys2Proof/Machine/Compress.lean ====
section
/-! DEFINITION. The Compression Core (41_compression_core.md): the transform ρ, the micro-steps on the core's registers, their
sequencing, and the composed function of R76. -/

namespace Sys2Proof.Machine

/-- Output word j of the lookup-XOR transform ρ (R70); `j - k` on `Fin 8` is `(j - k) mod 8` (R11). -/
def rhoWord (v : Words) (j : Fin 8) : Word :=
  romC 0 (byteOf v[j] 0) ^^^ romC 1 (byteOf v[j - 1] 1) ^^^ romC 2 (byteOf v[j - 2] 2) ^^^ romC 3 (byteOf v[j - 3] 3) ^^^
    romC 4 (byteOf v[j - 4] 4) ^^^ romC 5 (byteOf v[j - 5] 5) ^^^ romC 6 (byteOf v[j - 6] 6) ^^^ romC 7 (byteOf v[j - 7] 7)

/-- The key round: K' from the current key schedule and the round's constant, in word 0 only (R71). -/
def keyRound (k : Words) (r : Nat) : Words :=
  Vector.ofFn fun j => rhoWord k j ^^^ (if j = 0 then romRC r else 0)

/-- The cipher round: S' from the current cipher state and K' of the same round (R72, R104). -/
def cipherRound (c k' : Words) : Words := Vector.ofFn fun j => rhoWord c j ^^^ k'[j]

/-- LOAD, the first step of a compression: the block is parsed and latched, the key schedule starts from the hash state, the
cipher state from the block XOR the hash state (R69). -/
def coreLoad (blk : Block) (h : Words) : CoreRegs :=
  { ck := h, cs := Vector.ofFn fun i => blockWord blk i ^^^ h[i], cb := blockWords blk, cr := 0 }

/-- One round with r = CR: all words of CK and CS are replaced together, from their values at its start (R73, R106). -/
def coreRound (c : CoreRegs) : CoreRegs :=
  { c with ck := keyRound c.ck c.cr.toNat, cs := cipherRound c.cs (keyRound c.ck c.cr.toNat), cr := c.cr + 1 }

/-- "While CR < 10, one round" (R74), at most `n` rounds. -/
def coreRounds : Nat → CoreRegs → CoreRegs
  | 0, c => c
  | n + 1, c => if c.cr.toNat < 10 then coreRounds n (coreRound c) else c

/-- The feed-forward: the hash state at LOAD, which the rounds do not touch (R105), XOR CS XOR CB (R75). -/
def coreFeedForward (h : Words) (c : CoreRegs) : Words := Vector.ofFn fun i => h[i] ^^^ c.cs[i] ^^^ c.cb[i]

/-- One compression of BUF into H on the core's registers: LOAD, the rounds while CR < 10, the feed-forward (R74). -/
def runCore (s : State) : State :=
  { s with
    hash := coreFeedForward s.hash (coreRounds 10 (coreLoad s.buf s.hash))
    core := coreRounds 10 (coreLoad s.buf s.hash) }

/-- The rounds of R76 from key schedule `k` and cipher state `c`, for the round numbers listed. -/
def cipherRounds (k c : Words) : List Nat → Words
  | [] => c
  | r :: rs => cipherRounds (keyRound k r) (cipherRound c (keyRound k r)) rs

/-- `Compress(blk, H)` as one function of the block and the hash state (R68, R76). -/
def compress (blk : Block) (h : Words) : Words :=
  let s := cipherRounds h (Vector.ofFn fun i => blockWord blk i ^^^ h[i]) (List.range 10)
  Vector.ofFn fun i => h[i] ^^^ s[i] ^^^ blockWord blk i

end Sys2Proof.Machine
end

