-- ==== Sys2Proof/Machine/Flags.lean ====
section
/-! DEFINITION. The status fields' values: PHASE (R21), the error codes (R91), the bit cursor (R20) and the STATUS view (R26). -/

namespace Sys2Proof.Machine

/-- The 2-bit value of PHASE (R21). -/
def Phase.bits : Phase → BitVec 2
  | .absorb => 0
  | .done => 1
  | .error => 2

/-- The 4-bit code of an error (R91). -/
def ErrorCode.code : ErrorCode → BitVec 4
  | .none => 0
  | .illegalOpcode => 1
  | .illegalReserved => 2
  | .illegalOperand => 3
  | .updateAfterFinal => 4
  | .finalTwice => 5
  | .digestBeforeFinal => 6
  | .wrlenAfterFinal => 7
  | .rejectedInError => 8

/-- Whether a code is one that ERRCODE latches, `1 ≤ c ≤ 7` (R91, R93). -/
def ErrorCode.latches (c : ErrorCode) : Bool := decide (1 ≤ c.code.toNat ∧ c.code.toNat ≤ 7)

/-- The code a header refused at decode is reported with (R54, R91). -/
def illegalCode : Illegal → ErrorCode
  | .opcode => .illegalOpcode
  | .reserved => .illegalReserved
  | .operand => .illegalOperand

/-- BUFBITS = 8 × NB, the 9-bit bit cursor (R20). -/
def bufBits (nb : Fin 64) : BitVec 9 := BitVec.ofNat 9 (8 * nb.val)

/-- The STATUS register: 47 zero bits, BUFBITS, ERRCODE, two zero bits, PHASE (R26). -/
def statusWord (s : State) : Word := (0 : BitVec 47) ++ bufBits s.nb ++ s.errCode.code ++ (0 : BitVec 2) ++ s.phase.bits

/-- `cmd_ready = NOT BUSY` (R48), and 0 while `rst` is asserted (R99). -/
def cmdReady (s : State) : Bool := !s.busy && !s.rst

end Sys2Proof.Machine
end

