-- ==== Sys2Proof/Machine/Ops.lean ====
section
/-! DEFINITION. The shared operations: the response (R56), the error entry (R93) and its exit (R80, R94), the length counter's
advance (R18), the buffer's writes, absorbing a byte (R78), completing a block (R79), and the padding steps of FINAL (R83). -/

namespace Sys2Proof.Machine

/-- `respond(err, data)`: the single response of the command in progress; BUSY falls with it (R13, R23, R56). -/
def respond (err : Bool) (data : Word) (s : State) : State :=
  { s with busy := false, rsps := s.rsps ++ [{ err := err, data := data }] }

/-- The state change of the error entry: a code 1..7 outside ERROR is latched, and nothing else ever changes (R93). -/
def latchError (c : ErrorCode) (s : State) : State :=
  if c.latches ∧ s.phase ≠ .error then { s with phase := .error, errCode := c } else s

/-- `raise Error(c)`: the error entry (R93). It saves nothing and goes nowhere: the block has no vector or handler. -/
def raiseError (c : ErrorCode) (s : State) : State :=
  respond true (c.code.setWidth 64) (latchError c s)

/-- A fresh accumulator: INIT's writes, the only exit from ERROR beside reset (R80, R94). -/
def clearAccumulator (s : State) : State :=
  { s with
    hash := Vector.replicate 8 0, len := 0, buf := Vector.replicate 64 0, nb := 0, phase := .absorb, errCode := .none }

/-- The length counter's advance by `d` bits, modulo 2^256 (R18). -/
def advanceLength (l : Length) (d : Word) : Length := l + d.setWidth 256

/-- The byte loop of R18 over bytes `i` = n-1 down to 0 of `lb`, with `d` and the carry as they stand. -/
def addCarryLoop : Nat → (Nat → Byte) → Word → Nat → (Nat → Byte)
  | 0, lb, _, _ => lb
  | n + 1, lb, d, carry =>
    let t := (lb n).toNat + (d.extractLsb' 0 8).toNat + carry
    addCarryLoop n (fun j => if j = n then BitVec.ofNat 8 t else lb j) (d >>> 8) (t / 256)

/-- The bytes LB after the big-endian add-with-carry of R18, as the rule's loop writes them. -/
def advanceLengthBytes (l : Length) (d : Word) : List Byte :=
  (List.range 32).map (addCarryLoop 32 (lenByte l) d 0)

/-- Every byte of BUF from position `k` up set to 0x00 (R79, R83). -/
def zeroFrom (k : Nat) (blk : Block) : Block := Vector.ofFn fun i => if k ≤ i.val then 0 else blk[i]

/-- The length field: `BUF[32 + i] <- LB[i]` for i = 0..31 (R36, R83). -/
def writeLength (l : Length) (blk : Block) : Block :=
  Vector.ofFn fun i => if 32 ≤ i.val then lenByte l (i.val - 32) else blk[i]

/-- A compression followed by the clearing of BUF (R79, R83). -/
def compressAndClear (s : State) : State := { runCore s with buf := zeroFrom 0 s.buf }

/-- `CompleteBlock()` (R79). -/
def completeBlock (s : State) : State := { compressAndClear s with nb := 0 }

/-- `AbsorbByte(b)` (R78). NB is 64 only between the byte's write and the block's completion, so it is not stored
(log entry 15). -/
def absorbByte (b : Byte) (s : State) : State :=
  let s := { s with buf := s.buf.set s.nb.val b s.nb.isLt, len := advanceLength s.len 8 }
  if s.nb.val + 1 = 64 then completeBlock s else { s with nb := s.nb + 1 }

/-- `AbsorbByte` for each byte in order (R81). -/
def absorbBytes : List Byte → State → State
  | [], s => s
  | b :: bs, s => absorbBytes bs (absorbByte b s)

/-- FINAL's padding: the byte 0x80 at BUF[NB], and 0x00 from there to the end of the block (R83). -/
def padBlock (s : State) : State :=
  { s with buf := zeroFrom (s.nb.val + 1) (s.buf.set s.nb.val 0x80 s.nb.isLt) }

/-- FINAL's branch: where the length field does not fit after the pad byte, the padding block is compressed and a fresh zero
buffer started (R83, C7). -/
def spillPadding (s : State) : State := if s.nb.val + 1 > 32 then compressAndClear s else s

/-- FINAL's last block: the length field written and the block compressed (R83). -/
def compressLength (s : State) : State := compressAndClear { s with buf := writeLength s.len s.buf }

/-- The whole of FINAL's work on the accumulator (R83). -/
def finishMessage (s : State) : State :=
  { compressLength (spillPadding (padBlock s)) with nb := 0, phase := .done }

end Sys2Proof.Machine
end

