-- ==== Sys2Proof/Machine/Access.lean ====
section
/-! DEFINITION. The meanings of the access commands RDDIG, RDSTAT, RDLEN and WRLEN (43_access_commands.md). -/

namespace Sys2Proof.Machine

/-- RDDIG idx (R87). -/
def execRddig (idx : BitVec 3) (s : State) : Host.Outcome State Fault Refusal :=
  match s.phase with
  | .error => .next (raiseError .rejectedInError s)
  | .absorb => .next (raiseError .digestBeforeFinal s)
  | .done => .next (respond false (selectWord s.hash idx) s)

/-- RDSTAT (R88). -/
def execRdstat (s : State) : Host.Outcome State Fault Refusal := .next (respond false (statusWord s) s)

/-- RDLEN idx (R89). An index the decoder refuses (R54) is refused here with the same code (log entry 7). -/
def execRdlen (idx : BitVec 3) (s : State) : Host.Outcome State Fault Refusal :=
  if 3 < idx.toNat then .next (raiseError .illegalOperand s)
  else match s.phase with
    | .error => .next (raiseError .rejectedInError s)
    | .absorb => .next (respond false (lenWord s.len idx.toNat) s)
    | .done => .next (respond false (lenWord s.len idx.toNat) s)

/-- WRLEN idx, data (R90). An index the decoder refuses (R54) is refused here with the same code (log entry 7). -/
def execWrlen (idx : BitVec 3) (data : Word) (s : State) : Host.Outcome State Fault Refusal :=
  if 3 < idx.toNat then .next (raiseError .illegalOperand s)
  else match s.phase with
    | .error => .next (raiseError .rejectedInError s)
    | .done => .next (raiseError .wrlenAfterFinal s)
    | .absorb => .next (respond false 0 { s with len := setLenWord s.len idx.toNat data })

end Sys2Proof.Machine
end

