-- ==== Sys2Proof/Machine/Accumulator.lean ====
section
/-! DEFINITION. The meanings of the accumulator commands INIT, ABSORB and FINAL (42_accumulator_commands.md). -/

namespace Sys2Proof.Machine

/-- INIT (R80). -/
def execInit (s : State) : Host.Outcome State Fault Refusal := .next (respond false 0 (clearAccumulator s))

/-- ABSORB cnt, data (R81). A count the decoder refuses (R54) is refused here with the same code, before the phase is looked
at, as R92 orders the checks (log entry 7). -/
def execAbsorb (cnt : BitVec 4) (data : Word) (s : State) : Host.Outcome State Fault Refusal :=
  if 8 < cnt.toNat then .next (raiseError .illegalOperand s)
  else match s.phase with
    | .error => .next (raiseError .rejectedInError s)
    | .done => .next (raiseError .updateAfterFinal s)
    | .absorb => .next (respond false 0 (absorbBytes (chunkBytes cnt data) s))

/-- FINAL (R83). -/
def execFinal (s : State) : Host.Outcome State Fault Refusal :=
  match s.phase with
  | .error => .next (raiseError .rejectedInError s)
  | .done => .next (raiseError .finalTwice s)
  | .absorb => .next (respond false 0 (finishMessage s))

end Sys2Proof.Machine
end

