-- ==== Sys2Proof/Machine/Dispatch.lean ====
section
/-! DEFINITION. The dispatch of a decoded command to its meaning. -/

namespace Sys2Proof.Machine

/-- One command performed on the state (R14, R43). -/
def exec (i : Instr) (s : State) : Host.Outcome State Fault Refusal :=
  match i with
  | .init => Sys2Proof.Machine.execInit s
  | .absorb cnt data => Sys2Proof.Machine.execAbsorb cnt data s
  | .final => Sys2Proof.Machine.execFinal s
  | .rddig idx => Sys2Proof.Machine.execRddig idx s
  | .rdstat => Sys2Proof.Machine.execRdstat s
  | .rdlen idx => Sys2Proof.Machine.execRdlen idx s
  | .wrlen idx data => Sys2Proof.Machine.execWrlen idx data s

end Sys2Proof.Machine
end

