-- ==== Sys2Proof/Machine/Port.lean ====
section
/-! DEFINITION. The command port and the reset input (R48, R99, R102): accepting a command, performing the one in progress,
asserting, holding and releasing the reset, and what one step does with them. -/

namespace Sys2Proof.Machine

/-- Acceptance of a command: it is latched, and BUSY is 1 until its response (R23, R48). -/
def accept (c : Command) (s : State) : State := { s with busy := true, curHdr := c.hdr, curData := c.data }

/-- The command in progress, decoded and performed; an illegal header ends through the error entry (R54, R92). -/
def performCurrent (s : State) : Host.Outcome State Fault Refusal :=
  match decode s.curHdr s.curData with
  | .legal i => exec i s
  | .illegal why => .next (raiseError (illegalCode why) s)

/-- The block when `rst` is released: every element at its reset value (R31, R99). What the host does next and what it has
received are the host's, and stay. -/
def resetBlock (s : State) : State := { State.reset with pending := s.pending, rsps := s.rsps }

/-- The host asserts `rst`: a command in progress is abandoned without a response (R99). That the elements take their reset
values already here, and not only at the release, is the model's choice (log entry 22). -/
def assertReset (s : State) : State := { resetBlock s with rst := true }

/-- While `rst` is asserted no command is accepted and no response emitted: a command presented waits (R99, R102). The release
leaves the reset state. -/
def heldStep (s : State) : State :=
  match s.pending with
  | .releaseRst :: rest => resetBlock { s with pending := rest }
  | .assertRst :: rest => { s with pending := rest }
  | .await :: rest => { s with pending := rest }
  | .command _ :: _ => s
  | [] => s

/-- One step of the block and its ports. While `rst` is asserted the block is held. Asserting `rst` takes precedence over a
command in progress (R92, R99). A command in progress is performed to its response while whatever the host presents is held
(R43, R48, R102). A ready block accepts the command presented, and otherwise holds its state (R98; log entry 4). -/
def portStep (s : State) : Host.Outcome State Fault Refusal :=
  match s.rst, s.busy, s.pending with
  | true, _, _ => .next (heldStep s)
  | false, _, .assertRst :: rest => .next (assertReset { s with pending := rest })
  | false, true, _ => performCurrent s
  | false, false, .command c :: rest => .next (accept c { s with pending := rest })
  | false, false, .await :: rest => .next { s with pending := rest }
  | false, false, .releaseRst :: rest => .next { s with pending := rest }
  | false, false, [] => .next s

/-- The host's next actions without an assertion of `rst` at their head: one that stands there first waits for a response
(R44). -/
def holdReset : List HostAction → List HostAction
  | .assertRst :: rest => .await :: .assertRst :: rest
  | acts => acts

/-- A command placed as the one in progress of a block that is not held in reset, so that the next step performs it (log entry
2). -/
def placeCommand (c : Command) (s : State) : State := accept c { s with rst := false, pending := holdReset s.pending }

end Sys2Proof.Machine
end

