-- ==== Sys2Proof/Machine/Step.lean ====
section
/-! DEFINITION. The step function, and the placing of a command where the next step performs it. -/

namespace Sys2Proof.Machine

/-- One step of the block and its ports (R48, R99; log entry 4). -/
def step (s : State) : Host.Outcome State Fault Refusal := portStep s

/-- `s` with the command of a table row's bits as the command in progress: accepted, not yet performed (log entries 2, 14). -/
def State.withFetchWord (s : State) (nbits w : Nat) : State := placeCommand (commandOfTableWord nbits w) s

end Sys2Proof.Machine
end

