-- ==== Sys2Proof/Machine/Assembler.lean ====
section
/-! DEFINITION. The written form of commands (R57), the pseudo-commands (R58), and the digest as text (R39). None of it is part of
the block: it says how test programs name the commands the host presents. -/

namespace Sys2Proof.Machine

/-- One lowercase hexadecimal digit (R39, R57). -/
def hexDigit (n : Nat) : Char := "0123456789abcdef".toList.getD n '0'

/-- `digits` lowercase hexadecimal digits of `n`, high digit first. -/
def hexDigits (digits n : Nat) : List Char :=
  (List.range digits).map fun i => hexDigit (n / 16 ^ (digits - 1 - i) % 16)

/-- The encoding of a line, `hdr:data`: the header as 4 hex digits and the data as 16 (R57). -/
def encodingText (c : Command) : String :=
  String.ofList (hexDigits 4 c.hdr.toNat ++ [':'] ++ hexDigits 16 c.data.toNat)

/-- A data operand as a line writes it: `0x` and 16 hex digits (R57). -/
def dataText (d : Word) : List Char := ['0', 'x'] ++ hexDigits 16 d.toNat

/-- A count or an index as a line writes it: one decimal digit (R57). -/
def digitText (n : Nat) : List Char := [hexDigit n]

/-- A command as a line of the assembler syntax (R57). -/
def lineText : Instr → String
  | .init => "INIT"
  | .absorb cnt data => String.ofList ("ABSORB ".toList ++ digitText cnt.toNat ++ [',', ' '] ++ dataText data)
  | .final => "FINAL"
  | .rddig idx => String.ofList ("RDDIG ".toList ++ digitText idx.toNat)
  | .rdstat => "RDSTAT"
  | .rdlen idx => String.ofList ("RDLEN ".toList ++ digitText idx.toNat)
  | .wrlen idx data => String.ofList ("WRLEN ".toList ++ digitText idx.toNat ++ [',', ' '] ++ dataText data)

/-- The raw form `.cmd <hdr>, <data64>` for reserved headers (R57). R57 does not say how this form writes `<hdr>`: `0x` and 4 hex
digits, by analogy with data64, is the model's choice (DESIGN CHOICE, log entry 20). -/
def rawLineText (c : Command) : String :=
  String.ofList (".cmd ".toList ++ ['0', 'x'] ++ hexDigits 4 c.hdr.toNat ++ [',', ' '] ++ dataText c.data)

/-- Up to eight bytes left-aligned in a data operand with zero padding (R58). -/
def packBytes (bs : List Byte) : Word :=
  let b := fun k => bs.getD k 0
  be64 (b 0) (b 1) (b 2) (b 3) (b 4) (b 5) (b 6) (b 7)

/-- `ABSORBSTR`: ⌊m/8⌋ commands of eight bytes, then one of the remaining bytes if there are any (R58). -/
def absorbStr (m : List Byte) : List Instr :=
  (List.range (m.length / 8)).map (fun j => .absorb 8 (packBytes (m.drop (8 * j)))) ++
    (if m.length % 8 = 0 then []
     else [.absorb (BitVec.ofNat 4 (m.length % 8)) (packBytes (m.drop (8 * (m.length / 8))))])

/-- `DIGEST`: RDDIG 0 through RDDIG 7 in order (R58). -/
def digestCommands : List Instr := (List.range 8).map fun i => .rddig (BitVec.ofNat 3 i)

/-- `HASH`: INIT, ABSORBSTR, FINAL, DIGEST (R58). -/
def hashCommands (m : List Byte) : List Instr := .init :: (absorbStr m ++ .final :: digestCommands)

/-- The host's rendering of a digest: D[0] first, two lowercase hex digits a byte, high nibble first (R39). -/
def digestText (h : Words) : String := String.ofList ((digestBytes h).flatMap fun d => hexDigits 2 d.toNat)

end Sys2Proof.Machine
end

