-- ==== Sys2Proof/Safety.lean ====
section
/-! DEFINITION. The terms claims use: runs of commands, error-free runs (R95), the invariant of every command boundary (R29), and
the digest of a message as a function of its bytes (R76, R84). -/

namespace Sys2Proof.Machine

/-- Commands performed one after another, each on the state the one before it left (R43). -/
def execAll : List Instr → State → Host.Outcome State Fault Refusal
  | [], s => .next s
  | i :: is, s =>
    match exec i s with
    | .next t => execAll is t
    | .fault r => .fault r
    | .refused r => .refused r

/-- Raw commands accepted and performed one after another, illegal headers among them (R43, R54). -/
def performAll : List Command → State → Host.Outcome State Fault Refusal
  | [], s => .next s
  | c :: cs, s =>
    match performCurrent (accept c s) with
    | .next t => performAll cs t
    | .fault r => .fault r
    | .refused r => .refused r

/-- No response of the list has `rsp_err = 1`: the premise of a claim about a message (R95). -/
def errorFree (rs : List Response) : Bool := rs.all fun r => !r.err

/-- The code of the one error a command reports, 0 where it reports none: the table of R91 in the order of R92, the decode checks
first, then code 8, then the command's own phase check. -/
def raisedCode (d : Decoded) (p : Phase) : Nat :=
  match d, p with
  | .illegal .opcode, _ => 1
  | .illegal .reserved, _ => 2
  | .illegal .operand, _ => 3
  | .legal .init, _ => 0
  | .legal .rdstat, _ => 0
  | .legal (.absorb _ _), .absorb => 0
  | .legal (.absorb _ _), .done => 4
  | .legal (.absorb _ _), .error => 8
  | .legal .final, .absorb => 0
  | .legal .final, .done => 5
  | .legal .final, .error => 8
  | .legal (.rddig _), .absorb => 6
  | .legal (.rddig _), .done => 0
  | .legal (.rddig _), .error => 8
  | .legal (.rdlen _), .absorb => 0
  | .legal (.rdlen _), .done => 0
  | .legal (.rdlen _), .error => 8
  | .legal (.wrlen _ _), .absorb => 0
  | .legal (.wrlen _ _), .done => 7
  | .legal (.wrlen _ _), .error => 8

/-- The reset input is neither asserted nor asserted next (R99). -/
def noResetNext (s : State) : Bool :=
  !s.rst && match s.pending with
    | .assertRst :: _ => false
    | _ => true

/-- What holds at every command boundary: R29 items 1 and 5, R22 (code 8 is never latched), R83 (DONE leaves NB = 0), R24
(CR is 0..10), the zero bytes of BUF at NB and above (decision D16), and R99 (no command is in progress while `rst` is
asserted). -/
structure State.Inv (s : State) : Prop where
  error_iff : s.phase = .error ↔ s.errCode ≠ .none
  not_rejected : s.errCode ≠ .rejectedInError
  tail_zero : ∀ i : Fin 64, s.nb ≤ i → s.buf[i] = 0
  done_empty : s.phase = .done → s.nb = 0
  rounds_le : s.core.cr.toNat ≤ 10
  held_idle : s.rst = true → s.busy = false

/-- Two states that differ at most in the core's micro-state CK, CS, CB, CR (R24). -/
def State.sameButCore (s t : State) : Prop :=
  t = { s with core := t.core }

/-- Two states that differ at most in the bytes of BUF at NB and above and in the core's micro-state (R19, R24). -/
def State.sameButTail (s t : State) : Prop :=
  t = { s with buf := t.buf, core := t.core } ∧ ∀ i : Fin 64, i < s.nb → t.buf[i] = s.buf[i]

/-- The message bytes a command carries: ABSORB's first `cnt` data bytes (R37). -/
def messageBytes : Instr → List Byte
  | .absorb cnt data => chunkBytes cnt data
  | .init | .final | .rddig _ | .rdstat | .rdlen _ | .wrlen _ _ => []

/-- A well-formed ABSORB command (R81). -/
def isAbsorb : Instr → Bool
  | .absorb cnt data => (Instr.absorb cnt data).wf
  | .init | .final | .rddig _ | .rdstat | .rdlen _ | .wrlen _ _ => false

/-- Block `k` of a byte sequence, 64 bytes. -/
def blockAt (bs : List Byte) (k : Nat) : Block := Vector.ofFn fun i => bs.getD (64 * k + i.val) 0

/-- The complete 64-byte blocks of a byte sequence, in order. -/
def blocksOf (bs : List Byte) : List Block := (List.range (bs.length / 64)).map (blockAt bs)

/-- What FINAL compresses when `tail` (fewer than 64 bytes) is buffered and the length counter is `l`, as the table of R84
lists it: the tail, 0x80, zeros, and the 32 length bytes at the end of the last block. -/
def paddedTail (tail : List Byte) (l : Length) : List Byte :=
  if tail.length ≤ 31 then tail ++ [0x80] ++ List.replicate (31 - tail.length) 0 ++ lenBytes l
  else tail ++ [0x80] ++ List.replicate (63 - tail.length) 0 ++ List.replicate 32 0 ++ lenBytes l

/-- The bytes of BUF that hold input: `BUF[0..NB-1]` (R20). -/
def State.buffered (s : State) : List Byte := s.buf.toList.take s.nb.val

/-- `Compress` folded over blocks in order (R29 item 4). -/
def compressBlocks (bs : List Block) (h : Words) : Words := bs.foldl (fun h b => compress b h) h

/-- The padded message: its bytes, then its last part padded as R84 lists, with L = 8M mod 2^256. -/
def paddedMessage (m : List Byte) : List Byte :=
  m.take (64 * (m.length / 64)) ++ paddedTail (m.drop (64 * (m.length / 64))) (BitVec.ofNat 256 (8 * m.length))

/-- The Whirlpool digest of a message, as eight words: `Compress` folded over the padded message from the zero state. -/
def whirlpool (m : List Byte) : Words := compressBlocks (blocksOf (paddedMessage m)) (Vector.replicate 8 0)

end Sys2Proof.Machine
end

