-- ==== Sys2Proof/Certificates/Slice0/Obligations.lean ====
section
/-! DEFINITION. The statements for the provers, from the spec's numbered rules. A rule the spec itself marks [derived] is cited
as such in the docstring, and a clause that rests on a choice of the model names its log entry. -/

open Sys2Proof Sys2Proof.Machine

/-! ## Reset, the ports, and the step -/

/-- R31: the values the spec states for reset. The core's micro-state, which R31 leaves unspecified, is not mentioned. -/
def Obligations.ResetStateValues : Prop :=
  (∀ i : Fin 8, State.reset.hash[i] = 0) ∧ State.reset.len = 0 ∧ (∀ i : Fin 64, State.reset.buf[i] = 0) ∧
    State.reset.nb = 0 ∧ State.reset.phase = .absorb ∧ State.reset.errCode = .none ∧ State.reset.busy = false ∧
    statusWord State.reset = 0

/-- R99, in any state and with a command in progress or not. Asserting `rst` abandons the command in progress without a response
and makes `cmd_ready` 0. While `rst` is asserted no command is accepted, one presented is held, and no response is emitted.
When it is released, every element the rule lists holds its reset value, and the block is ready. That a step held by `rst`
leaves every element of the block as it is, is the model's choice (log entry 22, DESIGN CHOICE): R99 gives the elements' values
at the release only. The host's queue and the record of responses are the model's (log entries 1 and 3). -/
def Obligations.ResetTakesPrecedence : Prop :=
  (∀ (s : State) (rest : List HostAction), s.rst = false → s.pending = .assertRst :: rest →
    ∃ t, step s = .next t ∧ t.rst = true ∧ cmdReady t = false ∧ t.busy = false ∧ t.rsps = s.rsps ∧ t.pending = rest) ∧
  (∀ s : State, s.rst = true → cmdReady s = false ∧
    ∃ t, step s = .next t ∧ t.rsps = s.rsps ∧ ((∃ rest, s.pending = .releaseRst :: rest) ∨ t = { s with pending := t.pending })) ∧
  (∀ (s : State) (c : Command) (rest : List HostAction), s.rst = true → s.pending = .command c :: rest → step s = .next s) ∧
  (∀ (s : State) (rest : List HostAction), s.rst = true → s.pending = .releaseRst :: rest →
    ∃ t, step s = .next t ∧ (∀ i : Fin 8, t.hash[i] = 0) ∧ t.len = 0 ∧ (∀ i : Fin 64, t.buf[i] = 0) ∧ t.nb = 0 ∧
      t.phase = .absorb ∧ t.errCode = .none ∧ t.busy = false ∧ t.rst = false ∧ cmdReady t = true ∧ t.rsps = s.rsps ∧
      t.pending = rest)

/-- R43, R54: a step with a command in progress and no reset presented is `exec` of the decoded command. -/
def Obligations.StepPerformsDecodedCommand : Prop :=
  ∀ (s : State) (i : Instr), s.busy = true → noResetNext s = true → decode s.curHdr s.curData = .legal i →
    step s = exec i s

/-- R54, R91, R93: a step with an illegal header in progress answers with the code of the check that failed, latches it
outside ERROR, and leaves everything else as it was. -/
def Obligations.StepRefusesIllegalHeader : Prop :=
  ∀ (s : State) (why : Illegal), s.busy = true → noResetNext s = true → decode s.curHdr s.curData = .illegal why →
    step s = .next { s with
      phase := .error
      errCode := if s.phase = .error then s.errCode else
        match why with
        | .opcode => .illegalOpcode
        | .reserved => .illegalReserved
        | .operand => .illegalOperand
      busy := false
      rsps := s.rsps ++ [{ err := true, data := match why with
        | .opcode => 1
        | .reserved => 2
        | .operand => 3 }] }

/-- R48, R23: a block whose `cmd_ready` is 1 accepts the command presented: BUSY becomes 1, the command is latched (log entry 8), and
nothing else changes. -/
def Obligations.IdleBlockAcceptsCommand : Prop :=
  ∀ (s : State) (c : Command) (rest : List HostAction), cmdReady s = true → s.pending = .command c :: rest →
    step s = .next { s with busy := true, curHdr := c.hdr, curData := c.data, pending := rest }

/-- R102, R23: while BUSY is 1 `cmd_ready` is 0, the block performs the command in progress, and whatever the host presents is
held, neither lost nor performed early; the step ends with the one response of the command in progress and BUSY = 0. -/
def Obligations.BusyBlockHoldsPresentedCommand : Prop :=
  ∀ s : State, s.busy = true → noResetNext s = true →
    cmdReady s = false ∧
      ∃ t r, step s = .next t ∧ t.pending = s.pending ∧ t.busy = false ∧ cmdReady t = true ∧ t.rsps = s.rsps ++ [r]

/-- R98: between commands the block holds all its state. The actions `await`, and `releaseRst` where `rst` is not asserted, are the
model's (log entry 1): they end without an effect on the block. -/
def Obligations.IdleBlockHoldsState : Prop :=
  ∀ s : State, cmdReady s = true →
    (s.pending = [] → step s = .next s) ∧
    (∀ rest, s.pending = .await :: rest → step s = .next { s with pending := rest }) ∧
    (∀ rest, s.pending = .releaseRst :: rest → step s = .next { s with pending := rest })

/-- R107 (decision D19): every step answers a next state; no state, command or header stops the machine. -/
def Obligations.EveryStepAnswersNext : Prop := ∀ s : State, ∃ t, step s = .next t

/-- R43, R56, R102: commands presented to a ready block are all served in the order presented, with one response each, and leave
the state that performing them one after another gives. That each takes two steps is the model's grain (log entries 2 and 4,
DESIGN CHOICE). -/
def Obligations.PresentedCommandsAreServedInOrder : Prop :=
  ∀ (cs : List Command) (s : State), cmdReady s = true → s.pending = cs.map HostAction.command →
    ∃ t, Host.Core.run Sys2Proof.core (2 * cs.length) s = .next t ∧ performAll cs { s with pending := [] } = .next t ∧
      cmdReady t = true ∧ t.pending = [] ∧ t.rsps.length = s.rsps.length + cs.length

/-- Log entries 2 and 14: a table row's bits placed with `withFetchWord` are what the next step performs. -/
def Obligations.PlacedTableWordIsPerformed : Prop :=
  ∀ (s : State) (nbits w : Nat) (i : Instr), decodeTableWord nbits w = some i →
    step (s.withFetchWord nbits w) = exec i (s.withFetchWord nbits w)

/-! ## The invariant of command boundaries -/

/-- The reset state meets the invariant (R31, R29; CR's reset value is log entry 5's). -/
def Obligations.ResetMeetsInvariant : Prop := State.reset.Inv

/-- R29 items 1 and 5, R22, R24 (CR is 0..10), R83 (DONE only with NB = 0; decision D20), R99 (no command in progress while `rst` is
asserted), and the zero tail of BUF (decision D16): every step from every state that meets the invariant leads to one that meets
it. The spec marks R29 [derived]. That CR is at most 10 after a reset rests on the model's choice of 0 (log entry 5, DESIGN
CHOICE). -/
def Obligations.StepKeepsInvariant : Prop := ∀ s t : State, s.Inv → step s = .next t → t.Inv

/-! ## Encoding and decoding -/

/-- R50, R52, R54: decoding the encoding of a well-formed command gives the command back, with every operand. -/
def Obligations.DecodeOfEncode : Prop :=
  ∀ i : Instr, i.wf = true → decode (encode i).hdr (encode i).data = .legal i

/-- R52, R53: a header the decoder accepts stands for a well-formed command, and is that command's encoding, as is the data
operand of a command that uses it. -/
def Obligations.EncodeOfDecode : Prop :=
  ∀ (hdr : Header) (data : Word) (i : Instr), decode hdr data = .legal i →
    i.wf = true ∧ (encode i).hdr = hdr ∧ (opOf hdr = 2 ∨ opOf hdr = 7 → (encode i).data = data)

/-- R54: the checks of decoding, in their order, over the header as a number: the first that fails decides the code, a header
that passes all of them is the command of its opcode with its fields, and a command with an illegal header answers an error with
the code. -/
def Obligations.DecodeChecksInOrder : Prop :=
  ∀ (hdr : Header) (data : Word) (op cnt idx rsv : Nat),
    op = hdr.toNat / 4096 → cnt = hdr.toNat / 256 % 16 → idx = hdr.toNat / 32 % 8 → rsv = hdr.toNat % 32 →
    (op = 0 ∨ 8 ≤ op → decode hdr data = .illegal .opcode) ∧
    (1 ≤ op → op ≤ 7 → rsv ≠ 0 → decode hdr data = .illegal .reserved) ∧
    (op = 1 ∨ op = 3 ∨ op = 5 → rsv = 0 → cnt ≠ 0 ∨ idx ≠ 0 → decode hdr data = .illegal .reserved) ∧
    (op = 2 → rsv = 0 → idx ≠ 0 → decode hdr data = .illegal .reserved) ∧
    (op = 4 ∨ op = 6 ∨ op = 7 → rsv = 0 → cnt ≠ 0 → decode hdr data = .illegal .reserved) ∧
    (op = 2 → rsv = 0 → idx = 0 → 8 < cnt → decode hdr data = .illegal .operand) ∧
    (op = 6 ∨ op = 7 → rsv = 0 → cnt = 0 → 3 < idx → decode hdr data = .illegal .operand) ∧
    (op = 1 → cnt = 0 → idx = 0 → rsv = 0 → decode hdr data = .legal .init) ∧
    (op = 2 → cnt ≤ 8 → idx = 0 → rsv = 0 → decode hdr data = .legal (.absorb (BitVec.ofNat 4 cnt) data)) ∧
    (op = 3 → cnt = 0 → idx = 0 → rsv = 0 → decode hdr data = .legal .final) ∧
    (op = 4 → cnt = 0 → rsv = 0 → decode hdr data = .legal (.rddig (BitVec.ofNat 3 idx))) ∧
    (op = 5 → cnt = 0 → idx = 0 → rsv = 0 → decode hdr data = .legal .rdstat) ∧
    (op = 6 → cnt = 0 → idx ≤ 3 → rsv = 0 → decode hdr data = .legal (.rdlen (BitVec.ofNat 3 idx))) ∧
    (op = 7 → cnt = 0 → idx ≤ 3 → rsv = 0 → decode hdr data = .legal (.wrlen (BitVec.ofNat 3 idx) data)) ∧
    ∀ (s : State) (why : Illegal), s.curHdr = hdr → s.curData = data → decode hdr data = .illegal why →
      ∃ t, performCurrent s = .next t ∧ t.rsps = s.rsps ++ [{ err := true, data := match why with
        | .opcode => 1
        | .reserved => 2
        | .operand => 3 }]

/-- R55 (which the spec marks [derived]): exactly 28 of the 65,536 headers are legal. -/
def Obligations.TwentyEightLegalHeaders : Prop :=
  ∃ hs : List Header, hs.Nodup ∧ hs.length = 28 ∧ ∀ hdr, hdr ∈ hs ↔ ∃ data i, decode hdr data = .legal i

/-- R52: words written out from the opcode map decode to the commands they stand for. -/
def Obligations.OpcodeMapWordsDecode : Prop :=
  decode 0b0001000000000000 0 = .legal .init ∧ decode 0b0010001100000000 0x6162630000000000 = .legal (.absorb 3 0x6162630000000000) ∧
    decode 0b0011000000000000 0 = .legal .final ∧ decode 0b0100000011100000 0 = .legal (.rddig 7) ∧
    decode 0b0101000000000000 0 = .legal .rdstat ∧ decode 0b0110000001100000 0 = .legal (.rdlen 3) ∧
    decode 0b0111000000100000 5 = .legal (.wrlen 1 5)

/-- R51, R53: a command other than ABSORB and WRLEN ignores the data operand, whatever its bits. -/
def Obligations.UnusedDataIsIgnored : Prop :=
  ∀ (hdr : Header) (data data' : Word), opOf hdr ≠ 2 → opOf hdr ≠ 7 → decode hdr data = decode hdr data'

/-- R54, R92: every command term, one with an operand the decoder refuses too, runs as its own header does (log entry 7). -/
def Obligations.EveryTermRunsAsItsHeader : Prop :=
  ∀ (i : Instr) (s : State), s.busy = true → noResetNext s = true → s.curHdr = (encode i).hdr → s.curData = (encode i).data →
    step s = exec i s

/-! ## Byte order and views -/

/-- R10: byte k of a word is its bits 63-8k to 56-8k, and byte k of a word built from eight bytes is byte k of the eight. -/
def Obligations.WordBytesBigEndian : Prop :=
  (∀ (w : Word) (k : Fin 8), (byteOf w k.val).toNat = w.toNat / 2 ^ (56 - 8 * k.val) % 256) ∧
    ∀ b : Vector Byte 8, ∀ k : Fin 8, byteOf (be64 b[0] b[1] b[2] b[3] b[4] b[5] b[6] b[7]) k.val = b[k]

/-- R34: the block is parsed into eight big-endian words. -/
def Obligations.BlockParsedBigEndian : Prop :=
  ∀ (blk : Block) (i k : Fin 8), byteOf (blockWords blk)[i] k.val = blk[8 * i.val + k.val]

/-- R35: the digest has 64 bytes, and byte `8i + k` is byte k of H[i]. -/
def Obligations.DigestBytesBigEndian : Prop :=
  ∀ h : Words, (digestBytes h).length = 64 ∧
    ∀ i k : Fin 8, (digestBytes h)[8 * i.val + k.val]? = some (byteOf h[i] k.val)

/-- R17: the four words and the 32 bytes of the length counter are its parts, most significant first. -/
def Obligations.LengthViewsCoverCounter : Prop :=
  (∀ l : Length, lenWord l 0 ++ lenWord l 1 ++ lenWord l 2 ++ lenWord l 3 = l) ∧
    ∀ (l : Length) (w : Fin 4) (k : Fin 8), lenByte l (8 * w.val + k.val) = byteOf (lenWord l w.val) k.val

/-- R18: the byte-array add-with-carry of the rule's loop is addition modulo 2^256. -/
def Obligations.LengthByteLoopAddsModulo : Prop :=
  ∀ (l : Length) (d : Word),
    advanceLengthBytes l d = lenBytes (advanceLength l d) ∧ (advanceLength l d).toNat = (l.toNat + d.toNat) % 2 ^ 256

/-- R26: the fields of STATUS, its reserved bits reading 0. -/
def Obligations.StatusRegisterFields : Prop :=
  ∀ s : State,
    (statusWord s).toNat % 4 = s.phase.bits.toNat ∧ (statusWord s).toNat / 4 % 4 = 0 ∧
    (statusWord s).toNat / 16 % 16 = s.errCode.code.toNat ∧ (statusWord s).toNat / 256 % 512 = 8 * s.nb.val ∧
    (statusWord s).toNat / 2 ^ 17 = 0

/-! ## The tables and the core -/

/-- R59, R60: the S-box is a permutation, and the mini-box construction agrees with it at every input. -/
def Obligations.SboxIsMiniBoxPermutation : Prop :=
  (∀ x : Byte, sboxFromMiniBoxes x = sbox x) ∧ ∀ y : Byte, ∃ x : Byte, sbox x = y

/-- R64: the 256 values the spec lists for C_0 are those the construction of R62 gives. -/
def Obligations.DiffusionListingAgrees : Prop :=
  listingC0.length = 256 ∧ ∀ x : Byte, listingC0[x.toNat]? = some (romC 0 x)

/-- R63: byte j of C_k[x] is byte (j - k) mod 8 of C_0[x]. -/
def Obligations.DiffusionTablesRotate : Prop :=
  ∀ (k j : Fin 8) (x : Byte), byteOf (romC k.val x) j.val = byteOf (romC 0 x) (j - k).val

/-- R65: each round constant is built from eight consecutive S-box entries, and they are the ten values the rule lists. -/
def Obligations.RoundConstantValues : Prop :=
  (∀ r k, r < 10 → k < 8 → byteOf (romRC r) k = sbox (BitVec.ofNat 8 (8 * r + k))) ∧
  (List.range 10).map romRC =
    [0x1823c6e887b8014f, 0x36a6d2f5796f9152, 0x60bc9b8ea30c7b35, 0x1de0d7c22e4bfe57, 0x157737e59ff04ada,
      0x58c9290ab1a06b85, 0xbd5d10f4cb3e0567, 0xe427418ba77d95d8, 0xfbee7c66dd17479e, 0xca2dbf07ad5a8333]

/-- R70: output word j of ρ is the XOR over k = 0..7 of C_k at byte k of word (j - k) mod 8. -/
def Obligations.RhoIsLookupXor : Prop :=
  ∀ (v : Words) (j : Fin 8),
    rhoWord v j = (List.range 8).foldl (fun acc k => acc ^^^ romC k (byteOf (v.toList.getD ((j.val + 8 - k) % 8) 0) k)) 0

/-- R69: LOAD parses the block, latches it, starts the key schedule from H and the cipher state from the block XOR H, and sets
CR to 0. -/
def Obligations.CoreLoadsBlockAndHash : Prop :=
  ∀ (blk : Block) (h : Words), (coreLoad blk h).cr = 0 ∧
    ∀ i : Fin 8, (coreLoad blk h).cb[i] = blockWord blk i ∧ (coreLoad blk h).ck[i] = h[i] ∧
      (coreLoad blk h).cs[i] = blockWord blk i ^^^ h[i]

/-- R71, R72, R73, R104, R106: one round gives every word of CK and CS from their values at its start, the round constant in
word 0 of CK only, the new CK of the same round added to CS; CR advances and CB stays. -/
def Obligations.CoreRoundReplacesTogether : Prop :=
  ∀ c : CoreRegs, (coreRound c).cr = c.cr + 1 ∧ (coreRound c).cb = c.cb ∧
    ∀ j : Fin 8, (coreRound c).ck[j] = rhoWord c.ck j ^^^ (if j = 0 then romRC c.cr.toNat else 0) ∧
      (coreRound c).cs[j] = rhoWord c.cs j ^^^ (coreRound c).ck[j]

/-- R74: from LOAD exactly ten rounds run, round r with CR = r, whatever more the loop would allow, and CR is 10 after them;
a compression ends with the feed-forward of what they leave. -/
def Obligations.CoreRunsTenRounds : Prop :=
  ∀ (blk : Block) (h : Words),
    (∀ r, r ≤ 10 → (coreRound^[r] (coreLoad blk h)).cr.toNat = r) ∧
    (∀ n, 10 ≤ n → coreRounds n (coreLoad blk h) = coreRound^[10] (coreLoad blk h)) ∧
    ∀ s : State, (runCore s).hash = coreFeedForward s.hash (coreRound^[10] (coreLoad s.buf s.hash))

/-- R75, R105: the feed-forward XORs the hash state at LOAD, the cipher state after the rounds, and the block words parsed at
LOAD, which no number of rounds changes. -/
def Obligations.FeedForwardUsesLoadedBlock : Prop :=
  ∀ (n : Nat) (blk : Block) (h : Words) (i : Fin 8),
    (coreFeedForward h (coreRounds n (coreLoad blk h)))[i] =
      h[i] ^^^ (coreRounds n (coreLoad blk h)).cs[i] ^^^ blockWord blk i

/-- R76, R68: the core's micro-steps compute `Compress(BUF, H)`, and change nothing but H and the micro-state. -/
def Obligations.CoreComputesCompress : Prop :=
  ∀ s : State, ∃ t, runCore s = t ∧ t.hash = compress s.buf s.hash ∧
    t = { s with hash := t.hash, core := t.core }

/-! ## The commands -/

/-- R80: INIT starts a new message from any state. -/
def Obligations.InitStartsNewMessage : Prop :=
  ∀ s : State, ∃ t, exec .init s = .next t ∧
    (∀ i : Fin 8, t.hash[i] = 0) ∧ t.len = 0 ∧ (∀ i : Fin 64, t.buf[i] = 0) ∧ t.nb = 0 ∧ t.phase = .absorb ∧
    t.errCode = .none ∧
    t = { s with
      hash := t.hash, len := 0, buf := t.buf, nb := 0, phase := .absorb, errCode := .none, busy := false
      rsps := s.rsps ++ [{ err := false, data := 0 }] }

/-- R81, R78: ABSORB with room left in the block appends its bytes to BUF, advances NB and L, responds (0, 0) and changes nothing
else: no compression runs. -/
def Obligations.AbsorbWithinBlock : Prop :=
  ∀ (cnt : BitVec 4) (data : Word) (s : State), cnt.toNat ≤ 8 → s.phase = .absorb → s.nb.val + cnt.toNat < 64 →
    ∃ t, exec (.absorb cnt data) s = .next t ∧ t.nb.val = s.nb.val + cnt.toNat ∧
      t.len = s.len + BitVec.ofNat 256 (8 * cnt.toNat) ∧
      (∀ i : Fin 64, t.buf[i] =
        if s.nb.val ≤ i.val ∧ i.val < s.nb.val + cnt.toNat then byteOf data (i.val - s.nb.val) else s.buf[i]) ∧
      t = { s with
        buf := t.buf, nb := t.nb, len := t.len, busy := false, rsps := s.rsps ++ [{ err := false, data := 0 }] }

/-- R81, R78, R79: ABSORB that fills the block runs one compression, on the block its first bytes complete; the rest of its
bytes start the next block in a buffer that is otherwise zero. -/
def Obligations.AbsorbAcrossBlock : Prop :=
  ∀ (cnt : BitVec 4) (data : Word) (s : State), cnt.toNat ≤ 8 → s.phase = .absorb → 64 ≤ s.nb.val + cnt.toNat →
    ∃ t, exec (.absorb cnt data) s = .next t ∧
      t.hash = compress (Vector.ofFn fun i => if s.nb.val ≤ i.val then byteOf data (i.val - s.nb.val) else s.buf[i]) s.hash ∧
      t.nb.val = s.nb.val + cnt.toNat - 64 ∧ t.len = s.len + BitVec.ofNat 256 (8 * cnt.toNat) ∧
      (∀ i : Fin 64, t.buf[i] = if i.val < t.nb.val then byteOf data (i.val + 64 - s.nb.val) else 0) ∧
      t = { s with
        hash := t.hash, buf := t.buf, nb := t.nb, len := t.len, core := t.core
        busy := false, rsps := s.rsps ++ [{ err := false, data := 0 }] }

/-- R81, R93: ABSORB is error 4 in DONE, for any count including 0, and error 8 in ERROR; it absorbs nothing. -/
def Obligations.AbsorbRefusedOutsideAbsorb : Prop :=
  ∀ (cnt : BitVec 4) (data : Word) (s : State), cnt.toNat ≤ 8 →
    (s.phase = .done →
      exec (.absorb cnt data) s = .next { s with
        phase := .error, errCode := .updateAfterFinal, busy := false
        rsps := s.rsps ++ [{ err := true, data := 4 }] }) ∧
    (s.phase = .error →
      exec (.absorb cnt data) s = .next { s with busy := false, rsps := s.rsps ++ [{ err := true, data := 8 }] })

/-- R37: ABSORB's data bytes from `cnt` up are ignored, whatever their values. -/
def Obligations.AbsorbIgnoresBytesBeyondCount : Prop :=
  ∀ (cnt : BitVec 4) (data data' : Word) (s : State), (∀ i, i < cnt.toNat → byteOf data i = byteOf data' i) →
    exec (.absorb cnt data) s = exec (.absorb cnt data') s

/-- R83, R84 (the spec marks R84 [derived]): FINAL in ABSORB compresses the one or two blocks the table of R84 lists, empties BUF,
and ends the message; L and everything else but the micro-state stay. In DONE it is error 5, in ERROR error 8. -/
def Obligations.FinalCompressesPaddedBlocks : Prop :=
  ∀ s : State,
    (s.phase = .absorb →
      ∃ t, exec .final s = .next t ∧ t.hash = compressBlocks (blocksOf (paddedTail s.buffered s.len)) s.hash ∧
        (∀ i : Fin 64, t.buf[i] = 0) ∧ t.nb = 0 ∧ t.phase = .done ∧
        t = { s with
          hash := t.hash, buf := t.buf, nb := 0, phase := .done, core := t.core
          busy := false, rsps := s.rsps ++ [{ err := false, data := 0 }] }) ∧
    (s.phase = .done →
      exec .final s = .next { s with
        phase := .error, errCode := .finalTwice, busy := false, rsps := s.rsps ++ [{ err := true, data := 5 }] }) ∧
    (s.phase = .error →
      exec .final s = .next { s with busy := false, rsps := s.rsps ++ [{ err := true, data := 8 }] })

/-- R87: RDDIG in DONE answers the selected word of H and changes nothing else; in ABSORB it is error 6, in ERROR error 8. -/
def Obligations.RddigReturnsDigestWord : Prop :=
  ∀ (idx : BitVec 3) (s : State),
    (s.phase = .done →
      exec (.rddig idx) s = .next { s with
        busy := false, rsps := s.rsps ++ [{ err := false, data := s.hash.toList.getD idx.toNat 0 }] }) ∧
    (s.phase = .absorb →
      exec (.rddig idx) s = .next { s with
        phase := .error, errCode := .digestBeforeFinal, busy := false
        rsps := s.rsps ++ [{ err := true, data := 6 }] }) ∧
    (s.phase = .error →
      exec (.rddig idx) s = .next { s with busy := false, rsps := s.rsps ++ [{ err := true, data := 8 }] })

/-- R88: RDSTAT answers STATUS in every phase and changes nothing else. -/
def Obligations.RdstatReturnsStatus : Prop :=
  ∀ s : State, exec .rdstat s = .next { s with
    busy := false, rsps := s.rsps ++ [{ err := false, data := statusWord s }] }

/-- R89: RDLEN in ABSORB and in DONE answers `L[255-64i : 192-64i]` and changes nothing else; in ERROR it is error 8. -/
def Obligations.RdlenReturnsLengthWord : Prop :=
  ∀ (idx : BitVec 3) (s : State), idx.toNat ≤ 3 →
    (s.phase ≠ .error →
      exec (.rdlen idx) s = .next { s with
        busy := false, rsps := s.rsps ++ [{ err := false, data := s.len.extractLsb' (192 - 64 * idx.toNat) 64 }] }) ∧
    (s.phase = .error →
      exec (.rdlen idx) s = .next { s with busy := false, rsps := s.rsps ++ [{ err := true, data := 8 }] })

/-- R90: WRLEN in ABSORB writes the selected word of L; the other words of L and everything else stay. In DONE it is error 7, in
ERROR error 8. -/
def Obligations.WrlenWritesLengthWord : Prop :=
  ∀ (idx : BitVec 3) (data : Word) (s : State), idx.toNat ≤ 3 →
    (s.phase = .absorb →
      ∃ t, exec (.wrlen idx data) s = .next t ∧ lenWord t.len idx.toNat = data ∧
        (∀ w, w ≤ 3 → w ≠ idx.toNat → lenWord t.len w = lenWord s.len w) ∧
        t = { s with len := t.len, busy := false, rsps := s.rsps ++ [{ err := false, data := 0 }] }) ∧
    (s.phase = .done →
      exec (.wrlen idx data) s = .next { s with
        phase := .error, errCode := .wrlenAfterFinal, busy := false, rsps := s.rsps ++ [{ err := true, data := 7 }] }) ∧
    (s.phase = .error →
      exec (.wrlen idx data) s = .next { s with busy := false, rsps := s.rsps ++ [{ err := true, data := 8 }] })

/-- R28 (which the spec marks [derived]) over all commands and outcomes: which command writes H, BUF, NB, L, PHASE and ERRCODE, an
erring one only PHASE and ERRCODE. The micro-state is written by the commands that run a compression (R24; its value is log
entry 6's). The latch (log entry 8), the host's queue (log entry 1) and the level of `rst` are never written by a command, and
the record of responses (log entry 3) grows by one. -/
def Obligations.CommandsWriteOnlyTheirState : Prop :=
  ∀ (i : Instr) (s t : State), exec i s = .next t →
    ∃ r, t.rsps = s.rsps ++ [r] ∧
      (t.hash ≠ s.hash ∨ t.buf ≠ s.buf ∨ t.nb ≠ s.nb → i = .init ∨ i = .final ∨ ∃ cnt data, i = .absorb cnt data) ∧
      (t.len ≠ s.len → i = .init ∨ (∃ cnt data, i = .absorb cnt data) ∨ ∃ idx data, i = .wrlen idx data) ∧
      (t.phase ≠ s.phase → i = .init ∨ i = .final ∨ r.err = true) ∧
      (t.errCode ≠ s.errCode → i = .init ∨ r.err = true) ∧
      (r.err = true → t = { s with phase := t.phase, errCode := t.errCode, busy := t.busy, rsps := t.rsps }) ∧
      (t.core ≠ s.core → i = .final ∨ ∃ cnt data, i = .absorb cnt data) ∧
      t.curHdr = s.curHdr ∧ t.curData = s.curData ∧ t.pending = s.pending ∧ t.rst = s.rst

/-! ## Errors and phases -/

/-- From the table of R91 and the order of R92: a command reports at most one code, the one whose check comes first. That codes 1 to
7 are latched in ERRCODE and 8 never is `ErringCommandHasNoPartialEffect`, the precedence of reset `ResetTakesPrecedence`. -/
def Obligations.OneCodeByPriority : Prop :=
  ∀ s : State, ∃ t r, performCurrent s = .next t ∧ t.rsps = s.rsps ++ [r] ∧
    (r.err = true ↔ raisedCode (decode s.curHdr s.curData) s.phase ≠ 0) ∧
    (r.err = true → r.data.toNat = raisedCode (decode s.curHdr s.curData) s.phase)

/-- R93: the error entry, over every command and illegal header: a command that answers `rsp_err = 1` changes only PHASE and
ERRCODE, and those only outside ERROR, where its own code, one of 1 to 7, is latched. -/
def Obligations.ErringCommandHasNoPartialEffect : Prop :=
  ∀ (s t : State) (d : Word), performCurrent s = .next t → t.rsps = s.rsps ++ [{ err := true, data := d }] →
    t = { s with phase := t.phase, errCode := t.errCode, busy := false, rsps := t.rsps } ∧ t.phase = .error ∧
    (s.phase = .error → t.errCode = s.errCode) ∧
    (s.phase ≠ .error → d = t.errCode.code.setWidth 64 ∧ 1 ≤ d.toNat ∧ d.toNat ≤ 7)

/-- R56: every accepted command answers exactly once: an error with the code it raised, zero-extended; a successful read with its
word; any other success with 0. BUSY falls with the response. -/
def Obligations.EveryCommandAnswersOnce : Prop :=
  ∀ s : State, ∃ t r, performCurrent s = .next t ∧ t.busy = false ∧ t.rsps = s.rsps ++ [r] ∧
    (r.err = true → 1 ≤ r.data.toNat ∧ r.data.toNat = raisedCode (decode s.curHdr s.curData) s.phase) ∧
    (r.err = false → ∃ i, decode s.curHdr s.curData = .legal i ∧ r.data = match i with
      | .init => 0
      | .absorb _ _ => 0
      | .final => 0
      | .rddig idx => s.hash.toList.getD idx.toNat 0
      | .rdstat => statusWord s
      | .rdlen idx => lenWord s.len idx.toNat
      | .wrlen _ _ => 0)

/-- R94: in ERROR, only a legal INIT changes anything but the response; the first error's code stays, and the response is STATUS
for RDSTAT and otherwise an error with its own code, 1 to 3 from decode or 8. Reset, the other exit, is
`ResetTakesPrecedence`. -/
def Obligations.ErrorLeftOnlyByInit : Prop :=
  ∀ s t : State, s.phase = .error → decode s.curHdr s.curData ≠ .legal .init → performCurrent s = .next t →
    ∃ r, t = { s with busy := false, rsps := s.rsps ++ [r] } ∧
      ((decode s.curHdr s.curData = .legal .rdstat ∧ r = { err := false, data := statusWord s }) ∨
        (r.err = true ∧ r.data ∈ [1, 2, 3, 8]))

/-- R21: the transitions of PHASE: a command in progress keeps it, or is an INIT, or a FINAL from ABSORB, or errs outside
ERROR. -/
def Obligations.PhaseTransitions : Prop :=
  ∀ s t : State, performCurrent s = .next t →
    (decode s.curHdr s.curData = .legal .init ∧ t.phase = .absorb) ∨
    (decode s.curHdr s.curData = .legal .final ∧ s.phase = .absorb ∧ t.phase = .done) ∨
    (s.phase ≠ .error ∧ t.phase = .error ∧ ∃ d, t.rsps = s.rsps ++ [{ err := true, data := d }]) ∨
    t.phase = s.phase

/-- R95, R22 (the spec marks R95 [derived]): over a run without INIT from a state without an error, ERRCODE at the end is the
code of the run's first error response, and NONE exactly if every response of the run has `rsp_err = 0`. -/
def Obligations.ErrcodeRecordsFirstError : Prop :=
  ∀ (cs : List Command) (s t : State), s.phase ≠ .error → s.errCode = .none →
    (∀ c ∈ cs, decode c.hdr c.data ≠ .legal .init) → performAll cs s = .next t →
    (errorFree (t.rsps.drop s.rsps.length) = true ↔ t.errCode = .none) ∧
    (t.rsps.drop s.rsps.length).find? (·.err) =
      if t.errCode = .none then none else some { err := true, data := t.errCode.code.setWidth 64 }

/-! ## What no command observes -/

/-- R24 (decision D28): the core's micro-state is never observed: from two states that differ only in it, a step gives two states
that differ only in it. So no statement about responses depends on log entries 5 and 6. -/
def Obligations.CoreMicroStateUnobserved : Prop :=
  ∀ s t : State, s.sameButCore t → ∃ s' t', step s = .next s' ∧ step t = .next t' ∧ s'.sameButCore t'

/-- R19: the bytes of BUF at NB and above are never read before they are written: from two states that differ only in them and in
the micro-state, a step gives two states that differ only in them. -/
def Obligations.BufferTailUnobserved : Prop :=
  ∀ s t : State, s.sameButTail t → ∃ s' t', step s = .next s' ∧ step t = .next t' ∧ s'.sameButTail t'

/-! ## Messages -/

/-- R82 (which the spec marks [derived]): what a run of ABSORB commands leaves depends on the bytes they carry, not on how they are
split; only the number of responses, and BUSY where a run is empty, tell two splits apart. That they leave the same micro-state,
of which R82 does not speak and which R24 and decision D28 leave open, rests on log entry 6 (DEDUCED). -/
def Obligations.AbsorbChunkingInvariance : Prop :=
  ∀ (is js : List Instr) (s : State), is.all isAbsorb = true → js.all isAbsorb = true →
    is.flatMap messageBytes = js.flatMap messageBytes → s.phase = .absorb →
    ∃ t u, execAll is s = .next t ∧ execAll js s = .next u ∧ u = { t with busy := u.busy, rsps := u.rsps }

/-- R29 items 2 and 3 (which the spec marks [derived]): from any state in ABSORB, after WRLEN too, a run of ABSORB commands
advances L by 8 per byte modulo 2^256 and NB by 1 per byte modulo 64. -/
def Obligations.AbsorbRunAdvancesLengthAndCount : Prop :=
  ∀ (is : List Instr) (s : State), is.all isAbsorb = true → s.phase = .absorb →
    ∃ t, execAll is s = .next t ∧ t.phase = .absorb ∧ t.errCode = s.errCode ∧
      t.len = s.len + BitVec.ofNat 256 (8 * (is.flatMap messageBytes).length) ∧
      t.nb.val = (s.nb.val + (is.flatMap messageBytes).length) % 64

/-- R29 item 4 (which the spec marks [derived]): after INIT and a run of ABSORB commands, H is Compress folded over the complete
blocks of the bytes absorbed, from zero, and BUF holds the rest of them. -/
def Obligations.AbsorbedMessageState : Prop :=
  ∀ (is : List Instr) (s : State), is.all isAbsorb = true →
    ∃ t, execAll (.init :: is) s = .next t ∧
      t.hash = compressBlocks (blocksOf (is.flatMap messageBytes)) (Vector.replicate 8 0) ∧
      t.buffered = (is.flatMap messageBytes).drop (64 * ((is.flatMap messageBytes).length / 64))

/-- R58: ABSORBSTR expands to well-formed ABSORB commands that carry the message's bytes in order. -/
def Obligations.AbsorbStrCarriesMessage : Prop :=
  ∀ m : List Byte, (absorbStr m).all isAbsorb = true ∧ (absorbStr m).flatMap messageBytes = m

/-- R85 (which the spec marks [derived]): with M bytes absorbed after INIT, the ABSORB commands have folded `Compress` over exactly
⌊M/64⌋ blocks, and FINAL then folds it over exactly 1 more if M mod 64 ≤ 31 and 2 more otherwise. -/
def Obligations.CompressionCountOfMessage : Prop :=
  ∀ (is : List Instr) (s : State), is.all isAbsorb = true →
    ∃ t u, execAll (.init :: is) s = .next t ∧ exec .final t = .next u ∧
      (blocksOf (is.flatMap messageBytes)).length = (is.flatMap messageBytes).length / 64 ∧
      t.hash = compressBlocks (blocksOf (is.flatMap messageBytes)) (Vector.replicate 8 0) ∧
      (blocksOf (paddedTail t.buffered t.len)).length = (if (is.flatMap messageBytes).length % 64 ≤ 31 then 1 else 2) ∧
      u.hash = compressBlocks (blocksOf (paddedTail t.buffered t.len)) t.hash ∧ u.phase = .done

/-- R83, R84, R86 (the spec marks R84 and R86 [derived]): from any state, the commands of HASH leave the Whirlpool digest of the
message, defined on its bytes alone, in H, and answer (0, 0) for each command before the digest and then the eight
words of the digest. -/
def Obligations.HashCommandsComputeWhirlpool : Prop :=
  ∀ (m : List Byte) (s : State), ∃ t, execAll (hashCommands m) s = .next t ∧ t.hash = whirlpool m ∧ t.phase = .done ∧
    t.errCode = .none ∧
    t.rsps = s.rsps ++ List.replicate ((absorbStr m).length + 2) { err := false, data := 0 } ++
      (whirlpool m).toList.map (fun w => { err := false, data := w })
end

