-- ==== Sys2Proof/Config.lean ====
section
/-! DEFINITION. What the spec leaves open for an implementation: the timing parameters of R8 (00_scope.md). They have no
body, so no proof can see a value, and no rule of the model reads them (R8, R107; log entry 9). The fixed
parameters of R6 and R7 are the widths and bounds of the types in Word.lean, Syntax.lean and Machine/State.lean. -/

namespace Sys2Proof

/-- T_ACCEPT (R8): time from a command's presentation to its acceptance while the block is idle. -/
opaque Config.tAccept : Nat

/-- T_ROUND (R8, R77): time of one core round. The argument is the draw of one round: the spec does not say that two rounds
take the same time, nor that the time is independent of the data. -/
opaque Config.tRound : Nat → Nat

/-- T_CMD(op, blocks) (R8): time from acceptance of a command with opcode `op` that runs `blocks` compressions to its
response. The last argument is the draw of one command: a model may not assume that the time is independent of the data. -/
opaque Config.tCmd : BitVec 4 → Nat → Nat → Nat

end Sys2Proof
end

