-- ==== Sys2Proof/Laws/Bits.lean ====
section
/-! SUPPORT. Concatenation and extraction as arithmetic on numbers, and the fields of a header built from its fields (R50). -/

namespace Sys2Proof

/-- Concatenation as arithmetic: `a ‖ b`, a in the more significant position (R9). -/
theorem toNat_concat {m n : Nat} (x : BitVec m) (y : BitVec n) : (x ++ y).toNat = x.toNat * 2 ^ n + y.toNat := by
  rw [BitVec.toNat_append, Nat.shiftLeft_eq, Nat.mul_comm, ← Nat.two_pow_add_eq_or_of_lt y.isLt]

/-- Extraction as arithmetic: `v[hi:lo]` (R9). -/
theorem toNat_field {n : Nat} (x : BitVec n) (lo width : Nat) :
    (x.extractLsb' lo width).toNat = x.toNat / 2 ^ lo % 2 ^ width := by
  rw [BitVec.extractLsb'_toNat, Nat.shiftRight_eq_div_pow]

theorem headerOf_toNat (op cnt : BitVec 4) (idx : BitVec 3) (rsv : BitVec 5) :
    (headerOf op cnt idx rsv).toNat = ((op.toNat * 2 ^ 4 + cnt.toNat) * 2 ^ 3 + idx.toNat) * 2 ^ 5 + rsv.toNat := by
  simp only [headerOf, toNat_concat]

@[simp] theorem opOf_headerOf (op cnt : BitVec 4) (idx : BitVec 3) (rsv : BitVec 5) :
    opOf (headerOf op cnt idx rsv) = op := by
  apply BitVec.eq_of_toNat_eq
  simp only [opOf, toNat_field, headerOf_toNat]
  omega

@[simp] theorem cntOf_headerOf (op cnt : BitVec 4) (idx : BitVec 3) (rsv : BitVec 5) :
    cntOf (headerOf op cnt idx rsv) = cnt := by
  apply BitVec.eq_of_toNat_eq
  simp only [cntOf, toNat_field, headerOf_toNat]
  omega

@[simp] theorem idxOf_headerOf (op cnt : BitVec 4) (idx : BitVec 3) (rsv : BitVec 5) :
    idxOf (headerOf op cnt idx rsv) = idx := by
  apply BitVec.eq_of_toNat_eq
  simp only [idxOf, toNat_field, headerOf_toNat]
  omega

@[simp] theorem rsvOf_headerOf (op cnt : BitVec 4) (idx : BitVec 3) (rsv : BitVec 5) :
    rsvOf (headerOf op cnt idx rsv) = rsv := by
  apply BitVec.eq_of_toNat_eq
  simp only [rsvOf, toNat_field, headerOf_toNat]
  omega

end Sys2Proof
end

