-- ==== Sys2Proof/Laws/State.lean ====
section
/-! SUPPORT. What each field of the state holds after each operation that is one record update: one lemma a field, true by
unfolding, so that no later proof unfolds a record update. -/

namespace Sys2Proof.Machine

@[simp] theorem respond_hash (e : Bool) (d : Word) (s : State) : (respond e d s).hash = s.hash := rfl
@[simp] theorem respond_len (e : Bool) (d : Word) (s : State) : (respond e d s).len = s.len := rfl
@[simp] theorem respond_buf (e : Bool) (d : Word) (s : State) : (respond e d s).buf = s.buf := rfl
@[simp] theorem respond_nb (e : Bool) (d : Word) (s : State) : (respond e d s).nb = s.nb := rfl
@[simp] theorem respond_phase (e : Bool) (d : Word) (s : State) : (respond e d s).phase = s.phase := rfl
@[simp] theorem respond_errCode (e : Bool) (d : Word) (s : State) : (respond e d s).errCode = s.errCode := rfl
@[simp] theorem respond_busy (e : Bool) (d : Word) (s : State) : (respond e d s).busy = false := rfl
@[simp] theorem respond_rst (e : Bool) (d : Word) (s : State) : (respond e d s).rst = s.rst := rfl
@[simp] theorem respond_core (e : Bool) (d : Word) (s : State) : (respond e d s).core = s.core := rfl
@[simp] theorem respond_curHdr (e : Bool) (d : Word) (s : State) : (respond e d s).curHdr = s.curHdr := rfl
@[simp] theorem respond_curData (e : Bool) (d : Word) (s : State) : (respond e d s).curData = s.curData := rfl
@[simp] theorem respond_pending (e : Bool) (d : Word) (s : State) : (respond e d s).pending = s.pending := rfl
@[simp] theorem respond_rsps (e : Bool) (d : Word) (s : State) : (respond e d s).rsps = s.rsps ++ [{ err := e, data := d }] := rfl

@[simp] theorem clearAccumulator_hash (s : State) : (clearAccumulator s).hash = Vector.replicate 8 0 := rfl
@[simp] theorem clearAccumulator_len (s : State) : (clearAccumulator s).len = 0 := rfl
@[simp] theorem clearAccumulator_buf (s : State) : (clearAccumulator s).buf = Vector.replicate 64 0 := rfl
@[simp] theorem clearAccumulator_nb (s : State) : (clearAccumulator s).nb = 0 := rfl
@[simp] theorem clearAccumulator_phase (s : State) : (clearAccumulator s).phase = .absorb := rfl
@[simp] theorem clearAccumulator_errCode (s : State) : (clearAccumulator s).errCode = .none := rfl
@[simp] theorem clearAccumulator_busy (s : State) : (clearAccumulator s).busy = s.busy := rfl
@[simp] theorem clearAccumulator_rst (s : State) : (clearAccumulator s).rst = s.rst := rfl
@[simp] theorem clearAccumulator_core (s : State) : (clearAccumulator s).core = s.core := rfl
@[simp] theorem clearAccumulator_curHdr (s : State) : (clearAccumulator s).curHdr = s.curHdr := rfl
@[simp] theorem clearAccumulator_curData (s : State) : (clearAccumulator s).curData = s.curData := rfl
@[simp] theorem clearAccumulator_pending (s : State) : (clearAccumulator s).pending = s.pending := rfl
@[simp] theorem clearAccumulator_rsps (s : State) : (clearAccumulator s).rsps = s.rsps := rfl

@[simp] theorem accept_hash (c : Command) (s : State) : (accept c s).hash = s.hash := rfl
@[simp] theorem accept_len (c : Command) (s : State) : (accept c s).len = s.len := rfl
@[simp] theorem accept_buf (c : Command) (s : State) : (accept c s).buf = s.buf := rfl
@[simp] theorem accept_nb (c : Command) (s : State) : (accept c s).nb = s.nb := rfl
@[simp] theorem accept_phase (c : Command) (s : State) : (accept c s).phase = s.phase := rfl
@[simp] theorem accept_errCode (c : Command) (s : State) : (accept c s).errCode = s.errCode := rfl
@[simp] theorem accept_busy (c : Command) (s : State) : (accept c s).busy = true := rfl
@[simp] theorem accept_rst (c : Command) (s : State) : (accept c s).rst = s.rst := rfl
@[simp] theorem accept_core (c : Command) (s : State) : (accept c s).core = s.core := rfl
@[simp] theorem accept_curHdr (c : Command) (s : State) : (accept c s).curHdr = c.hdr := rfl
@[simp] theorem accept_curData (c : Command) (s : State) : (accept c s).curData = c.data := rfl
@[simp] theorem accept_pending (c : Command) (s : State) : (accept c s).pending = s.pending := rfl
@[simp] theorem accept_rsps (c : Command) (s : State) : (accept c s).rsps = s.rsps := rfl

@[simp] theorem runCore_hash (s : State) : (runCore s).hash = coreFeedForward s.hash (coreRounds 10 (coreLoad s.buf s.hash)) := by simp only [runCore]
@[simp] theorem runCore_len (s : State) : (runCore s).len = s.len := by simp only [runCore]
@[simp] theorem runCore_buf (s : State) : (runCore s).buf = s.buf := by simp only [runCore]
@[simp] theorem runCore_nb (s : State) : (runCore s).nb = s.nb := by simp only [runCore]
@[simp] theorem runCore_phase (s : State) : (runCore s).phase = s.phase := by simp only [runCore]
@[simp] theorem runCore_errCode (s : State) : (runCore s).errCode = s.errCode := by simp only [runCore]
@[simp] theorem runCore_busy (s : State) : (runCore s).busy = s.busy := by simp only [runCore]
@[simp] theorem runCore_rst (s : State) : (runCore s).rst = s.rst := by simp only [runCore]
@[simp] theorem runCore_core (s : State) : (runCore s).core = coreRounds 10 (coreLoad s.buf s.hash) := by simp only [runCore]
@[simp] theorem runCore_curHdr (s : State) : (runCore s).curHdr = s.curHdr := by simp only [runCore]
@[simp] theorem runCore_curData (s : State) : (runCore s).curData = s.curData := by simp only [runCore]
@[simp] theorem runCore_pending (s : State) : (runCore s).pending = s.pending := by simp only [runCore]
@[simp] theorem runCore_rsps (s : State) : (runCore s).rsps = s.rsps := by simp only [runCore]

@[simp] theorem compressAndClear_hash (s : State) : (compressAndClear s).hash = coreFeedForward s.hash (coreRounds 10 (coreLoad s.buf s.hash)) := by simp only [compressAndClear, runCore]
@[simp] theorem compressAndClear_len (s : State) : (compressAndClear s).len = s.len := by simp only [compressAndClear, runCore]
@[simp] theorem compressAndClear_buf (s : State) : (compressAndClear s).buf = zeroFrom 0 s.buf := by simp only [compressAndClear, runCore]
@[simp] theorem compressAndClear_nb (s : State) : (compressAndClear s).nb = s.nb := by simp only [compressAndClear, runCore]
@[simp] theorem compressAndClear_phase (s : State) : (compressAndClear s).phase = s.phase := by simp only [compressAndClear, runCore]
@[simp] theorem compressAndClear_errCode (s : State) : (compressAndClear s).errCode = s.errCode := by simp only [compressAndClear, runCore]
@[simp] theorem compressAndClear_busy (s : State) : (compressAndClear s).busy = s.busy := by simp only [compressAndClear, runCore]
@[simp] theorem compressAndClear_rst (s : State) : (compressAndClear s).rst = s.rst := by simp only [compressAndClear, runCore]
@[simp] theorem compressAndClear_core (s : State) : (compressAndClear s).core = coreRounds 10 (coreLoad s.buf s.hash) := by simp only [compressAndClear, runCore]
@[simp] theorem compressAndClear_curHdr (s : State) : (compressAndClear s).curHdr = s.curHdr := by simp only [compressAndClear, runCore]
@[simp] theorem compressAndClear_curData (s : State) : (compressAndClear s).curData = s.curData := by simp only [compressAndClear, runCore]
@[simp] theorem compressAndClear_pending (s : State) : (compressAndClear s).pending = s.pending := by simp only [compressAndClear, runCore]
@[simp] theorem compressAndClear_rsps (s : State) : (compressAndClear s).rsps = s.rsps := by simp only [compressAndClear, runCore]

@[simp] theorem padBlock_hash (s : State) : (padBlock s).hash = s.hash := by simp only [padBlock]
@[simp] theorem padBlock_len (s : State) : (padBlock s).len = s.len := by simp only [padBlock]
@[simp] theorem padBlock_buf (s : State) : (padBlock s).buf = zeroFrom (s.nb.val + 1) (s.buf.set s.nb.val 0x80 s.nb.isLt) := by simp only [padBlock]
@[simp] theorem padBlock_nb (s : State) : (padBlock s).nb = s.nb := by simp only [padBlock]
@[simp] theorem padBlock_phase (s : State) : (padBlock s).phase = s.phase := by simp only [padBlock]
@[simp] theorem padBlock_errCode (s : State) : (padBlock s).errCode = s.errCode := by simp only [padBlock]
@[simp] theorem padBlock_busy (s : State) : (padBlock s).busy = s.busy := by simp only [padBlock]
@[simp] theorem padBlock_rst (s : State) : (padBlock s).rst = s.rst := by simp only [padBlock]
@[simp] theorem padBlock_core (s : State) : (padBlock s).core = s.core := by simp only [padBlock]
@[simp] theorem padBlock_curHdr (s : State) : (padBlock s).curHdr = s.curHdr := by simp only [padBlock]
@[simp] theorem padBlock_curData (s : State) : (padBlock s).curData = s.curData := by simp only [padBlock]
@[simp] theorem padBlock_pending (s : State) : (padBlock s).pending = s.pending := by simp only [padBlock]
@[simp] theorem padBlock_rsps (s : State) : (padBlock s).rsps = s.rsps := by simp only [padBlock]

@[simp] theorem resetBlock_hash (s : State) : (resetBlock s).hash = Vector.replicate 8 0 := rfl
@[simp] theorem resetBlock_len (s : State) : (resetBlock s).len = 0 := rfl
@[simp] theorem resetBlock_buf (s : State) : (resetBlock s).buf = Vector.replicate 64 0 := rfl
@[simp] theorem resetBlock_nb (s : State) : (resetBlock s).nb = 0 := rfl
@[simp] theorem resetBlock_phase (s : State) : (resetBlock s).phase = .absorb := rfl
@[simp] theorem resetBlock_errCode (s : State) : (resetBlock s).errCode = .none := rfl
@[simp] theorem resetBlock_busy (s : State) : (resetBlock s).busy = false := rfl
@[simp] theorem resetBlock_rst (s : State) : (resetBlock s).rst = false := rfl
@[simp] theorem resetBlock_core (s : State) : (resetBlock s).core = State.reset.core := rfl
@[simp] theorem resetBlock_curHdr (s : State) : (resetBlock s).curHdr = 0 := rfl
@[simp] theorem resetBlock_curData (s : State) : (resetBlock s).curData = 0 := rfl
@[simp] theorem resetBlock_pending (s : State) : (resetBlock s).pending = s.pending := rfl
@[simp] theorem resetBlock_rsps (s : State) : (resetBlock s).rsps = s.rsps := rfl

@[simp] theorem assertReset_hash (s : State) : (assertReset s).hash = Vector.replicate 8 0 := rfl
@[simp] theorem assertReset_len (s : State) : (assertReset s).len = 0 := rfl
@[simp] theorem assertReset_buf (s : State) : (assertReset s).buf = Vector.replicate 64 0 := rfl
@[simp] theorem assertReset_nb (s : State) : (assertReset s).nb = 0 := rfl
@[simp] theorem assertReset_phase (s : State) : (assertReset s).phase = .absorb := rfl
@[simp] theorem assertReset_errCode (s : State) : (assertReset s).errCode = .none := rfl
@[simp] theorem assertReset_busy (s : State) : (assertReset s).busy = false := rfl
@[simp] theorem assertReset_rst (s : State) : (assertReset s).rst = true := rfl
@[simp] theorem assertReset_core (s : State) : (assertReset s).core = State.reset.core := rfl
@[simp] theorem assertReset_curHdr (s : State) : (assertReset s).curHdr = 0 := rfl
@[simp] theorem assertReset_curData (s : State) : (assertReset s).curData = 0 := rfl
@[simp] theorem assertReset_pending (s : State) : (assertReset s).pending = s.pending := rfl
@[simp] theorem assertReset_rsps (s : State) : (assertReset s).rsps = s.rsps := rfl

/-- The block is ready exactly while no command is in progress and `rst` is not asserted (R48, R99). -/
@[simp] theorem cmdReady_iff (s : State) : cmdReady s = true ↔ s.busy = false ∧ s.rst = false := by
  simp [cmdReady]

end Sys2Proof.Machine
end

