-- ==== Sys2Proof/Laws/Ops.lean ====
section
/-! SUPPORT. What each shared operation can do, said once: frames (the fields an operation leaves alone) and one spec lemma an
operation, which later proofs cite instead of unfolding it. -/

namespace Sys2Proof.Machine

/-- The rounds leave the latched block words alone (R105). -/
@[simp] theorem coreRounds_cb (n : Nat) (c : CoreRegs) : (coreRounds n c).cb = c.cb := by
  induction n generalizing c with
  | zero => rfl
  | succ n ih =>
    rw [coreRounds]
    split
    · rw [ih, coreRound]
    · rfl

theorem zeroFrom_get (k : Nat) (blk : Block) (i : Nat) (h : i < 64) :
    (zeroFrom k blk)[i] = if k ≤ i then 0 else blk[i] := by
  simp [zeroFrom]

theorem writeLength_get (l : Length) (blk : Block) (i : Nat) (h : i < 64) :
    (writeLength l blk)[i] = if 32 ≤ i then lenByte l (i - 32) else blk[i] := by
  simp [writeLength]

/-- Clearing from position 0 leaves no byte of the block (R79). -/
@[simp] theorem zeroFrom_zero (blk : Block) : zeroFrom 0 blk = Vector.replicate 64 0 := by
  ext i hi
  simp [zeroFrom]

/-- What block completion does: the compression's hash and micro-state, and an empty buffer (R79). -/
theorem completeBlock_eq (s : State) :
    completeBlock s = { runCore s with buf := Vector.replicate 64 0, nb := 0 } := by
  simp only [completeBlock, compressAndClear, zeroFrom_zero]

/-- What absorbing a byte does: the byte goes to BUF[NB] and L advances by 8; then NB steps, or the full block is completed
(R78, R79). -/
theorem absorbByte_cases (b : Byte) (s : State) :
    (s.nb.val + 1 < 64 ∧
      absorbByte b s = { s with
        buf := s.buf.set s.nb.val b s.nb.isLt, len := advanceLength s.len 8, nb := s.nb + 1 }) ∨
    (s.nb.val + 1 = 64 ∧
      absorbByte b s = completeBlock { s with
        buf := s.buf.set s.nb.val b s.nb.isLt, len := advanceLength s.len 8 }) := by
  by_cases h : s.nb.val + 1 = 64
  · exact .inr ⟨h, by simp only [absorbByte, if_pos h]⟩
  · exact .inl ⟨by omega, by simp only [absorbByte, if_neg h]⟩

@[simp] theorem absorbByte_phase (b : Byte) (s : State) : (absorbByte b s).phase = s.phase := by
  rcases absorbByte_cases b s with ⟨-, h⟩ | ⟨-, h⟩ <;> simp [h, completeBlock_eq]
@[simp] theorem absorbByte_errCode (b : Byte) (s : State) : (absorbByte b s).errCode = s.errCode := by
  rcases absorbByte_cases b s with ⟨-, h⟩ | ⟨-, h⟩ <;> simp [h, completeBlock_eq]
@[simp] theorem absorbByte_busy (b : Byte) (s : State) : (absorbByte b s).busy = s.busy := by
  rcases absorbByte_cases b s with ⟨-, h⟩ | ⟨-, h⟩ <;> simp [h, completeBlock_eq]
@[simp] theorem absorbByte_rst (b : Byte) (s : State) : (absorbByte b s).rst = s.rst := by
  rcases absorbByte_cases b s with ⟨-, h⟩ | ⟨-, h⟩ <;> simp [h, completeBlock_eq]
@[simp] theorem absorbByte_curHdr (b : Byte) (s : State) : (absorbByte b s).curHdr = s.curHdr := by
  rcases absorbByte_cases b s with ⟨-, h⟩ | ⟨-, h⟩ <;> simp [h, completeBlock_eq]
@[simp] theorem absorbByte_curData (b : Byte) (s : State) : (absorbByte b s).curData = s.curData := by
  rcases absorbByte_cases b s with ⟨-, h⟩ | ⟨-, h⟩ <;> simp [h, completeBlock_eq]
@[simp] theorem absorbByte_pending (b : Byte) (s : State) : (absorbByte b s).pending = s.pending := by
  rcases absorbByte_cases b s with ⟨-, h⟩ | ⟨-, h⟩ <;> simp [h, completeBlock_eq]
@[simp] theorem absorbByte_rsps (b : Byte) (s : State) : (absorbByte b s).rsps = s.rsps := by
  rcases absorbByte_cases b s with ⟨-, h⟩ | ⟨-, h⟩ <;> simp [h, completeBlock_eq]

@[simp] theorem absorbByte_len (b : Byte) (s : State) : (absorbByte b s).len = advanceLength s.len 8 := by
  rcases absorbByte_cases b s with ⟨-, h⟩ | ⟨-, h⟩ <;> simp [h, completeBlock_eq]

/-- A field that absorbing one byte leaves alone, absorbing any bytes leaves alone. -/
theorem absorbBytes_keeps {α : Type} (f : State → α) (hf : ∀ b s, f (absorbByte b s) = f s) (bs : List Byte) (s : State) :
    f (absorbBytes bs s) = f s := by
  induction bs generalizing s with
  | nil => rfl
  | cons b bs ih => rw [absorbBytes, ih, hf]

@[simp] theorem absorbBytes_phase (bs : List Byte) (s : State) : (absorbBytes bs s).phase = s.phase :=
  absorbBytes_keeps (·.phase) (by simp) bs s
@[simp] theorem absorbBytes_errCode (bs : List Byte) (s : State) : (absorbBytes bs s).errCode = s.errCode :=
  absorbBytes_keeps (·.errCode) (by simp) bs s
@[simp] theorem absorbBytes_busy (bs : List Byte) (s : State) : (absorbBytes bs s).busy = s.busy :=
  absorbBytes_keeps (·.busy) (by simp) bs s
@[simp] theorem absorbBytes_rst (bs : List Byte) (s : State) : (absorbBytes bs s).rst = s.rst :=
  absorbBytes_keeps (·.rst) (by simp) bs s
@[simp] theorem absorbBytes_curHdr (bs : List Byte) (s : State) : (absorbBytes bs s).curHdr = s.curHdr :=
  absorbBytes_keeps (·.curHdr) (by simp) bs s
@[simp] theorem absorbBytes_curData (bs : List Byte) (s : State) : (absorbBytes bs s).curData = s.curData :=
  absorbBytes_keeps (·.curData) (by simp) bs s
@[simp] theorem absorbBytes_pending (bs : List Byte) (s : State) : (absorbBytes bs s).pending = s.pending :=
  absorbBytes_keeps (·.pending) (by simp) bs s
@[simp] theorem absorbBytes_rsps (bs : List Byte) (s : State) : (absorbBytes bs s).rsps = s.rsps :=
  absorbBytes_keeps (·.rsps) (by simp) bs s

/-- Bytes absorbed in two runs are absorbed as one (R78). -/
theorem absorbBytes_append (as bs : List Byte) (s : State) :
    absorbBytes (as ++ bs) s = absorbBytes bs (absorbBytes as s) := by
  induction as generalizing s with
  | nil => rfl
  | cons a as ih => exact ih (absorbByte a s)

/-- What FINAL's branch does: a padding block is compressed and a fresh zero buffer started, or nothing (R83). -/
theorem spillPadding_cases (s : State) :
    (s.nb.val + 1 > 32 ∧ spillPadding s = { runCore s with buf := Vector.replicate 64 0 }) ∨
    (s.nb.val + 1 ≤ 32 ∧ spillPadding s = s) := by
  by_cases h : s.nb.val + 1 > 32
  · exact .inl ⟨h, by simp only [spillPadding, if_pos h, compressAndClear, zeroFrom_zero]⟩
  · exact .inr ⟨by omega, by simp only [spillPadding, if_neg h]⟩

@[simp] theorem spillPadding_len (s : State) : (spillPadding s).len = s.len := by
  rcases spillPadding_cases s with ⟨-, h⟩ | ⟨-, h⟩ <;> simp [h]
@[simp] theorem spillPadding_nb (s : State) : (spillPadding s).nb = s.nb := by
  rcases spillPadding_cases s with ⟨-, h⟩ | ⟨-, h⟩ <;> simp [h]
@[simp] theorem spillPadding_phase (s : State) : (spillPadding s).phase = s.phase := by
  rcases spillPadding_cases s with ⟨-, h⟩ | ⟨-, h⟩ <;> simp [h]
@[simp] theorem spillPadding_errCode (s : State) : (spillPadding s).errCode = s.errCode := by
  rcases spillPadding_cases s with ⟨-, h⟩ | ⟨-, h⟩ <;> simp [h]
@[simp] theorem spillPadding_busy (s : State) : (spillPadding s).busy = s.busy := by
  rcases spillPadding_cases s with ⟨-, h⟩ | ⟨-, h⟩ <;> simp [h]
@[simp] theorem spillPadding_rst (s : State) : (spillPadding s).rst = s.rst := by
  rcases spillPadding_cases s with ⟨-, h⟩ | ⟨-, h⟩ <;> simp [h]
@[simp] theorem spillPadding_curHdr (s : State) : (spillPadding s).curHdr = s.curHdr := by
  rcases spillPadding_cases s with ⟨-, h⟩ | ⟨-, h⟩ <;> simp [h]
@[simp] theorem spillPadding_curData (s : State) : (spillPadding s).curData = s.curData := by
  rcases spillPadding_cases s with ⟨-, h⟩ | ⟨-, h⟩ <;> simp [h]
@[simp] theorem spillPadding_pending (s : State) : (spillPadding s).pending = s.pending := by
  rcases spillPadding_cases s with ⟨-, h⟩ | ⟨-, h⟩ <;> simp [h]
@[simp] theorem spillPadding_rsps (s : State) : (spillPadding s).rsps = s.rsps := by
  rcases spillPadding_cases s with ⟨-, h⟩ | ⟨-, h⟩ <;> simp [h]

/-- What FINAL's work does, over the state its padding and branch leave: the length block's compression, an empty buffer, DONE
(R83). -/
theorem finishMessage_eq (s : State) :
    finishMessage s =
      { runCore { spillPadding (padBlock s) with buf := writeLength s.len (spillPadding (padBlock s)).buf } with
        buf := Vector.replicate 64 0, nb := 0, phase := .done } := by
  simp only [finishMessage, compressLength, compressAndClear, zeroFrom_zero, spillPadding_len, padBlock_len]

@[simp] theorem finishMessage_len (s : State) : (finishMessage s).len = s.len := by simp [finishMessage_eq]
@[simp] theorem finishMessage_errCode (s : State) : (finishMessage s).errCode = s.errCode := by simp [finishMessage_eq]
@[simp] theorem finishMessage_busy (s : State) : (finishMessage s).busy = s.busy := by simp [finishMessage_eq]
@[simp] theorem finishMessage_rst (s : State) : (finishMessage s).rst = s.rst := by simp [finishMessage_eq]
@[simp] theorem finishMessage_curHdr (s : State) : (finishMessage s).curHdr = s.curHdr := by simp [finishMessage_eq]
@[simp] theorem finishMessage_curData (s : State) : (finishMessage s).curData = s.curData := by simp [finishMessage_eq]
@[simp] theorem finishMessage_pending (s : State) : (finishMessage s).pending = s.pending := by simp [finishMessage_eq]
@[simp] theorem finishMessage_rsps (s : State) : (finishMessage s).rsps = s.rsps := by simp [finishMessage_eq]

@[simp] theorem finishMessage_buf (s : State) : (finishMessage s).buf = Vector.replicate 64 0 := by
  simp [finishMessage_eq]

@[simp] theorem finishMessage_nb (s : State) : (finishMessage s).nb = 0 := by simp [finishMessage_eq]

@[simp] theorem finishMessage_phase (s : State) : (finishMessage s).phase = .done := by simp [finishMessage_eq]

/-- The error entry's state change: latched outside ERROR for a code 1..7, nothing otherwise (R93). -/
theorem latchError_cases (c : ErrorCode) (s : State) :
    (c.latches = true ∧ s.phase ≠ .error ∧ latchError c s = { s with phase := .error, errCode := c }) ∨
    ((c.latches = false ∨ s.phase = .error) ∧ latchError c s = s) := by
  by_cases h : c.latches = true ∧ s.phase ≠ .error
  · exact .inl ⟨h.1, h.2, by simp only [latchError, if_pos h]⟩
  · refine .inr ⟨?_, by simp only [latchError, if_neg h]⟩
    by_cases hc : c.latches = true
    · exact .inr (by by_contra hp; exact h ⟨hc, hp⟩)
    · exact .inl (by simpa using hc)

@[simp] theorem latchError_hash (c : ErrorCode) (s : State) : (latchError c s).hash = s.hash := by
  rcases latchError_cases c s with ⟨-, -, h⟩ | ⟨-, h⟩ <;> simp [h]
@[simp] theorem latchError_len (c : ErrorCode) (s : State) : (latchError c s).len = s.len := by
  rcases latchError_cases c s with ⟨-, -, h⟩ | ⟨-, h⟩ <;> simp [h]
@[simp] theorem latchError_buf (c : ErrorCode) (s : State) : (latchError c s).buf = s.buf := by
  rcases latchError_cases c s with ⟨-, -, h⟩ | ⟨-, h⟩ <;> simp [h]
@[simp] theorem latchError_nb (c : ErrorCode) (s : State) : (latchError c s).nb = s.nb := by
  rcases latchError_cases c s with ⟨-, -, h⟩ | ⟨-, h⟩ <;> simp [h]
@[simp] theorem latchError_busy (c : ErrorCode) (s : State) : (latchError c s).busy = s.busy := by
  rcases latchError_cases c s with ⟨-, -, h⟩ | ⟨-, h⟩ <;> simp [h]
@[simp] theorem latchError_rst (c : ErrorCode) (s : State) : (latchError c s).rst = s.rst := by
  rcases latchError_cases c s with ⟨-, -, h⟩ | ⟨-, h⟩ <;> simp [h]
@[simp] theorem latchError_core (c : ErrorCode) (s : State) : (latchError c s).core = s.core := by
  rcases latchError_cases c s with ⟨-, -, h⟩ | ⟨-, h⟩ <;> simp [h]
@[simp] theorem latchError_curHdr (c : ErrorCode) (s : State) : (latchError c s).curHdr = s.curHdr := by
  rcases latchError_cases c s with ⟨-, -, h⟩ | ⟨-, h⟩ <;> simp [h]
@[simp] theorem latchError_curData (c : ErrorCode) (s : State) : (latchError c s).curData = s.curData := by
  rcases latchError_cases c s with ⟨-, -, h⟩ | ⟨-, h⟩ <;> simp [h]
@[simp] theorem latchError_pending (c : ErrorCode) (s : State) : (latchError c s).pending = s.pending := by
  rcases latchError_cases c s with ⟨-, -, h⟩ | ⟨-, h⟩ <;> simp [h]
@[simp] theorem latchError_rsps (c : ErrorCode) (s : State) : (latchError c s).rsps = s.rsps := by
  rcases latchError_cases c s with ⟨-, -, h⟩ | ⟨-, h⟩ <;> simp [h]

@[simp] theorem raiseError_hash (c : ErrorCode) (s : State) : (raiseError c s).hash = s.hash := by simp [raiseError]
@[simp] theorem raiseError_len (c : ErrorCode) (s : State) : (raiseError c s).len = s.len := by simp [raiseError]
@[simp] theorem raiseError_buf (c : ErrorCode) (s : State) : (raiseError c s).buf = s.buf := by simp [raiseError]
@[simp] theorem raiseError_nb (c : ErrorCode) (s : State) : (raiseError c s).nb = s.nb := by simp [raiseError]
@[simp] theorem raiseError_core (c : ErrorCode) (s : State) : (raiseError c s).core = s.core := by simp [raiseError]
@[simp] theorem raiseError_curHdr (c : ErrorCode) (s : State) : (raiseError c s).curHdr = s.curHdr := by simp [raiseError]
@[simp] theorem raiseError_curData (c : ErrorCode) (s : State) : (raiseError c s).curData = s.curData := by simp [raiseError]
@[simp] theorem raiseError_pending (c : ErrorCode) (s : State) : (raiseError c s).pending = s.pending := by simp [raiseError]

@[simp] theorem raiseError_busy (c : ErrorCode) (s : State) : (raiseError c s).busy = false := rfl
@[simp] theorem raiseError_rst (c : ErrorCode) (s : State) : (raiseError c s).rst = s.rst := by simp [raiseError]

@[simp] theorem raiseError_rsps (c : ErrorCode) (s : State) :
    (raiseError c s).rsps = s.rsps ++ [{ err := true, data := c.code.setWidth 64 }] := by simp [raiseError]

/-- In ERROR the error entry changes nothing but the response (R93, R94). -/
theorem raiseError_in_error (c : ErrorCode) (s : State) (h : s.phase = .error) :
    raiseError c s = respond true (c.code.setWidth 64) s := by
  simp [raiseError, latchError, h]

end Sys2Proof.Machine
end

