-- ==== Sys2Proof/Laws/Exec.lean ====
section
/-! SUPPORT. What a command and a step can do, said once: every command answers a next state of one of two shapes (an error
entry, or a response on the state its own effect leaves), and a step does one of five things. -/

namespace Sys2Proof.Machine

/-- The state a command's own effect leaves where it succeeds, before its response. -/
def effectOf : Instr → State → State
  | .init, s => clearAccumulator s
  | .absorb cnt data, s => absorbBytes (chunkBytes cnt data) s
  | .final, s => finishMessage s
  | .rddig _, s => s
  | .rdstat, s => s
  | .rdlen _, s => s
  | .wrlen idx data, s => { s with len := setLenWord s.len idx.toNat data }

/-- The data of a command's response where it succeeds (R56). -/
def answerOf : Instr → State → Word
  | .init, _ => 0
  | .absorb _ _, _ => 0
  | .final, _ => 0
  | .rddig idx, s => selectWord s.hash idx
  | .rdstat, s => statusWord s
  | .rdlen idx, s => lenWord s.len idx.toNat
  | .wrlen _ _, _ => 0

/-- No command's own effect touches the responses. -/
@[simp] theorem effectOf_rsps (i : Instr) (s : State) : (effectOf i s).rsps = s.rsps := by cases i <;> simp [effectOf]

/-- No command's own effect touches the level of `rst`. -/
@[simp] theorem effectOf_rst (i : Instr) (s : State) : (effectOf i s).rst = s.rst := by cases i <;> simp [effectOf]

/-- No command's own effect touches what the host does next. -/
@[simp] theorem effectOf_pending (i : Instr) (s : State) : (effectOf i s).pending = s.pending := by
  cases i <;> simp [effectOf]

/-- Every command ends through the error entry, with code 8 only in ERROR, or responds on the state its effect leaves. -/
theorem exec_cases (i : Instr) (s : State) :
    (∃ c, c ≠ .none ∧ (c = .rejectedInError → s.phase = .error) ∧ exec i s = .next (raiseError c s)) ∨
      exec i s = .next (respond false (answerOf i s) (effectOf i s)) := by
  cases i with
  | init => exact .inr rfl
  | rdstat => exact .inr rfl
  | _ =>
    simp only [exec, execAbsorb, execFinal, execRddig, execRdlen, execWrlen, effectOf, answerOf]
    repeat' split
    all_goals first
      | exact .inr rfl
      | exact .inl ⟨_, by decide, by intro h; first | assumption | (cases h), rfl⟩

/-- The command in progress ends through the error entry, or is legal and is performed. -/
theorem performCurrent_cases (s : State) :
    (∃ i, decode s.curHdr s.curData = .legal i ∧ performCurrent s = exec i s) ∨
    (∃ why, decode s.curHdr s.curData = .illegal why ∧ performCurrent s = .next (raiseError (illegalCode why) s)) := by
  unfold performCurrent
  split
  · next i h => exact .inl ⟨i, h, rfl⟩
  · next why h => exact .inr ⟨why, h, rfl⟩

/-- What a step does while `rst` is asserted: the release leaves the reset state, an action without an effect ends, or the
block is held as it is. -/
theorem heldStep_cases (s : State) :
    (∃ rest, s.pending = .releaseRst :: rest ∧ heldStep s = resetBlock { s with pending := rest }) ∨
    (∃ a rest, s.pending = a :: rest ∧ (a = .assertRst ∨ a = .await) ∧ heldStep s = { s with pending := rest }) ∨
    heldStep s = s := by
  unfold heldStep
  rcases s.pending with _ | ⟨_ | _ | _ | _, rest⟩ <;> simp

/-- What a step does: it is held by `rst`, or takes the assertion of `rst`, the command in progress, an acceptance, an action
without an effect, or nothing. -/
theorem step_cases (s : State) :
    (s.rst = true ∧ step s = .next (heldStep s)) ∨
    (s.rst = false ∧ ∃ rest, s.pending = .assertRst :: rest ∧ step s = .next (assertReset { s with pending := rest })) ∨
    (s.busy = true ∧ noResetNext s = true ∧ step s = performCurrent s) ∨
    (cmdReady s = true ∧ ∃ c rest, s.pending = .command c :: rest ∧ step s = .next (accept c { s with pending := rest })) ∨
    (cmdReady s = true ∧ ∃ a rest, s.pending = a :: rest ∧ (a = .await ∨ a = .releaseRst) ∧
      step s = .next { s with pending := rest }) ∨
    (cmdReady s = true ∧ s.pending = [] ∧ step s = .next s) := by
  unfold step portStep noResetNext
  rcases hp : s.pending with _ | ⟨_ | _ | _ | _, rest⟩ <;> cases hb : s.busy <;> cases hr : s.rst <;> simp [hb, hr]

end Sys2Proof.Machine
end

