-- ==== Sys2Proof/Laws/PerInstr.lean ====
section
/-! SUPPORT. Statements about every instruction as syntax, one lemma a constructor: the family EncodeFields says that the
header's four fields, read back from a command's encoding, are the ones the command was encoded from (R50, R53). -/

namespace Sys2Proof.Laws.EncodeFields

/-- The fields read back from the encoding's header are the command's own, and `rsv` is 0. -/
def Statement (i : Instr) : Prop :=
  opOf (encode i).hdr = opcode i ∧ cntOf (encode i).hdr = cntField i ∧ idxOf (encode i).hdr = idxField i ∧
    rsvOf (encode i).hdr = 0

theorem init : Statement .init := by simp [Statement, encode]

theorem absorb (cnt : BitVec 4) (data : Word) : Statement (.absorb cnt data) := by simp [Statement, encode]

theorem final : Statement .final := by simp [Statement, encode]

theorem rddig (idx : BitVec 3) : Statement (.rddig idx) := by simp [Statement, encode]

theorem rdstat : Statement .rdstat := by simp [Statement, encode]

theorem rdlen (idx : BitVec 3) : Statement (.rdlen idx) := by simp [Statement, encode]

theorem wrlen (idx : BitVec 3) (data : Word) : Statement (.wrlen idx data) := by simp [Statement, encode]

end Sys2Proof.Laws.EncodeFields
end

