-- ==== Sys2Proof/Tests/Slice0.lean ====
section
/-! SUPPORT. The model's own tests: expected results are the spec's vectors (95_test_vectors.md, named V-… and P…) or are read off
the rules by hand. After them, one witness for each statement with hypotheses: concrete values that meet them together. -/

namespace Sys2Proof.Machine

/-- What one command leaves, where it answers a next state. -/
def Tests.after {α : Type} (o : Host.Outcome State Fault Refusal) (view : State → α) (other : α) : α :=
  match o with
  | .next t => view t
  | .fault _ => other
  | .refused _ => other

/-- The state with the first bytes of BUF as listed, NB their number, and L as given. -/
def Tests.holding (bs : List Byte) (l : Length) : State :=
  { State.reset with
    buf := Vector.ofFn fun i => bs.getD i.val 0
    nb := Fin.ofNat 64 bs.length
    len := l }

/-- The bytes 00, 01, …, m-1 of the spec's vectors. -/
def Tests.counting (m : Nat) : List Byte := (List.range m).map (BitVec.ofNat 8)

/-- A block in phase DONE with a digest that tells its words apart. -/
def Tests.finished : State :=
  { State.reset with hash := #v[0x10, 0x11, 0x12, 0x13, 0x14, 0x15, 0x16, 0x17], phase := .done }

/-- A block in phase ERROR with code 4 latched. -/
def Tests.failed : State := { State.reset with phase := .error, errCode := .updateAfterFinal }

open Tests

/-! ## Well-formedness (R51) -/

theorem test_wf_absorb_nine : (Instr.absorb 9 0).wf = false := by decide
theorem test_wf_absorb_eight : (Instr.absorb 8 0).wf = true := by decide
theorem test_wf_rdlen_four : (Instr.rdlen 4).wf = false := by decide
theorem test_wf_wrlen_seven : (Instr.wrlen 7 0).wf = false := by decide
theorem test_wf_lengths_three : (Instr.rdlen 3).wf = true ∧ (Instr.wrlen 3 0).wf = true := by decide

/-! ## Decoding (R54): the vectors V-DC1 to V-DC24, and words written out from R52 -/

theorem test_decode_illegal_opcode :
    decode 0x0000 0 = .illegal .opcode ∧ decode 0x0001 0 = .illegal .opcode ∧ decode 0x8000 0 = .illegal .opcode ∧
      decode 0xf000 0 = .illegal .opcode := by decide

theorem test_decode_illegal_reserved :
    decode 0x1001 0 = .illegal .reserved ∧ decode 0x1020 0 = .illegal .reserved ∧ decode 0x1100 0 = .illegal .reserved ∧
      decode 0x2901 0 = .illegal .reserved ∧ decode 0x2920 0 = .illegal .reserved ∧ decode 0x4100 0 = .illegal .reserved ∧
      decode 0x5020 0 = .illegal .reserved ∧ decode 0x6180 0 = .illegal .reserved := by decide

theorem test_decode_illegal_operand :
    decode 0x2900 0 = .illegal .operand ∧ decode 0x2f00 0 = .illegal .operand ∧ decode 0x6080 0 = .illegal .operand ∧
      decode 0x70e0 0 = .illegal .operand := by decide

theorem test_decode_init : decode 0b0001000000000000 0 = .legal .init := by decide
theorem test_decode_absorb :
    decode 0b0010000000000000 5 = .legal (.absorb 0 5) ∧ decode 0b0010100000000000 5 = .legal (.absorb 8 5) := by decide
theorem test_decode_final : decode 0b0011000000000000 0 = .legal .final := by decide
theorem test_decode_rddig : decode 0b0100000011100000 0 = .legal (.rddig 7) := by decide
theorem test_decode_rdstat : decode 0b0101000000000000 0 = .legal .rdstat := by decide
theorem test_decode_rdlen : decode 0b0110000001100000 0 = .legal (.rdlen 3) := by decide
theorem test_decode_wrlen : decode 0b0111000000000000 9 = .legal (.wrlen 0 9) := by decide

/-- The encoding of a line, from the example of R57. -/
theorem test_encode_absorb_abc : encode (.absorb 3 0x6162630000000000) = ⟨0x2300, 0x6162630000000000⟩ := by decide

/-- The same line and its encoding as text (R57). -/
theorem test_text_absorb_abc :
    lineText (.absorb 3 0x6162630000000000) = "ABSORB 3, 0x6162630000000000" ∧
      encodingText (encode (.absorb 3 0x6162630000000000)) = "2300:6162630000000000" := by decide +kernel

/-- The data operand lies above the header in the host's numbering (log entry 14). -/
theorem test_table_word_wrlen : decodeTableWord 80 (0x7020 + 5 * 2 ^ 16) = some (.wrlen 1 5) := by decide

/-! ## Tables and rounds: V-TB1 to V-TB17, V-RH2, V-RH3, V-CO1 -/

theorem test_sbox : sbox 0x00 = 0x18 ∧ sbox 0x01 = 0x23 ∧ sbox 0x80 = 0x97 ∧ sbox 0xff = 0x86 := by decide
theorem test_gmul :
    gmul 0x02 0x80 = 0x1d ∧ gmul 0x09 0x18 = 0xd8 ∧ gmul 0x57 0x01 = 0x57 ∧ gmul 0xff 0x08 = 0xab := by decide
theorem test_diffusion_tables :
    romC 0 0x00 = 0x18186018c07830d8 ∧ romC 0 0xff = 0x8686228644a411c2 ∧ romC 1 0x00 = 0xd818186018c07830 ∧
      romC 4 0x00 = 0xc07830d818186018 ∧ romC 7 0x00 = 0x186018c07830d818 ∧ romC 7 0xff = 0x86228644a411c286 := by
  decide +kernel

/-- V-RH2: byte 0 of word 0 feeds C_0 of output word 0 only. -/
theorem test_rho_first_byte :
    rhoWord #v[0x8000000000000000, 0, 0, 0, 0, 0, 0, 0] 0 = 0xa7a72ea724a12bab ∧
      rhoWord #v[0x8000000000000000, 0, 0, 0, 0, 0, 0, 0] 7 = 0x2828282828282828 := by decide +kernel

/-- V-RH3: byte 7 of word 3 feeds C_7 of output word 2 only. -/
theorem test_rho_last_byte :
    rhoWord #v[0, 0, 0, 0x80, 0, 0, 0, 0] 2 = 0xa72ea724a12baba7 ∧
      rhoWord #v[0, 0, 0, 0x80, 0, 0, 0, 0] 3 = 0x2828282828282828 := by decide +kernel

/-- V-CO1: CK and CS after LOAD and rounds 0 and 1 on the empty message's block. -/
theorem test_core_trace :
    (coreLoad (padBlock State.reset).buf State.reset.hash).cs[0] = 0x8000000000000000 ∧
      (coreRound (coreLoad (padBlock State.reset).buf State.reset.hash)).ck[0] = 0x300beec0af902967 ∧
      (coreRound (coreLoad (padBlock State.reset).buf State.reset.hash)).cs[0] = 0x97acc0678b3102cc ∧
      (coreRound (coreRound (coreLoad (padBlock State.reset).buf State.reset.hash))).ck[1] = 0x4445456645e9cbaf ∧
      (coreRound (coreRound (coreLoad (padBlock State.reset).buf State.reset.hash))).cs[7] = 0x47e6478c61d30b47 := by
  decide +kernel

/-! ## The commands -/

/-- V-IN3, V-IN6: INIT clears an error and discards buffered bytes. -/
theorem test_init_clears :
    after (exec .init { holding [1, 2, 3, 4, 5] 40 with phase := .error, errCode := .updateAfterFinal })
      (fun t => (statusWord t, t.len, t.buf.toList.take 5, t.rsps)) (1, 1, [], []) =
      (0, 0, [0, 0, 0, 0, 0], [{ err := false, data := 0 }]) := by decide

/-- V-AB3: the bytes beyond the count are ignored. -/
theorem test_absorb_abc :
    after (exec (.absorb 3 0x616263ffffffffff) State.reset) (fun t => (t.buf.toList.take 4, t.len, statusWord t)) ([], 0, 0) =
      ([0x61, 0x62, 0x63, 0], 24, 0x1800) := by decide

/-- V-AB5: the eighth ABSORB fills the block; H after its compression. -/
theorem test_absorb_fills_block :
    after (exec (.absorb 8 0x38393a3b3c3d3e3f) (holding (counting 56) 448)) (fun t => (t.hash, t.nb, t.len))
      (Vector.replicate 8 0, 1, 0) =
      (#v[0xb0fb3b38309bf52c, 0xdaddd0620680e0df, 0x55cc450f48b1959f, 0x9ecef5d23ca08704,
          0x50d4c91fe27600b2, 0x092ad43888b34250, 0xa5246b1a92afa299, 0xac3c33b9e9d1761f], 0, 512) := by decide +kernel

/-- Table T row 3: FINAL after "abc" leaves the published digest. -/
theorem test_final_abc :
    after (exec .final (holding [0x61, 0x62, 0x63] 24)) (fun t => (t.hash, statusWord t, t.len)) (Vector.replicate 8 0, 0, 0) =
      (#v[0x4e2448a4c6f486bb, 0x16b6562c73b4020b, 0xf3043e3a731bce72, 0x1ae1b303d97e6d4c,
          0x7181eebdb6c57e27, 0x7d0e34957114cbd6, 0xc797fc9d95d8b582, 0xd225292076d4eef5], 1, 24) := by decide +kernel

/-- V-FN4, P3: FINAL with 32 bytes buffered compresses two blocks. -/
theorem test_final_spills :
    after (exec .final (holding (counting 32) 256)) (·.hash) (Vector.replicate 8 0) =
      #v[0x888aeb1be2becb28, 0x598556a128afea03, 0x7d0689c8d13d9894, 0xf1416b2c48b2551c,
         0xb2fda321a26cc4d7, 0xe1c87332d7a3c18f, 0xfb455c92c0e7aaf8, 0x29fa40b8a28bb656] := by decide +kernel

/-- R87: RDDIG selects word idx of H. -/
theorem test_rddig_selects :
    after (exec (.rddig 6) finished) (·.rsps) [] = [{ err := false, data := 0x16 }] := by decide

/-- V-ST3: BUFBITS of 63 bytes reaches bit 16; V-AB9's status. -/
theorem test_rdstat :
    after (exec .rdstat (holding (counting 63) 0)) (·.rsps) [] = [{ err := false, data := 0x1f800 }] ∧
      after (exec .rdstat failed) (·.rsps) [] = [{ err := false, data := 0x42 }] := by decide

/-- V-LN4: RDLEN reads the selected word. -/
theorem test_rdlen_selects :
    after (exec (.rdlen 2) { State.reset with len := 0x0123456789abcdef0000000000000000 }) (·.rsps) [] =
      [{ err := false, data := 0x0123456789abcdef }] := by decide

/-- V-LN4: WRLEN writes only the selected word. -/
theorem test_wrlen_writes_one_word :
    after (exec (.wrlen 2 0x0123456789abcdef) State.reset) (·.len) 0 = 0x0123456789abcdef0000000000000000 := by decide

/-- V-LN1, V-LN2: the carry out of LW3, and the wrap at 2^256. -/
theorem test_length_carry :
    after (exec (.absorb 1 0x6100000000000000) { State.reset with len := 0xfffffffffffffff8 }) (·.len) 0 =
        0x10000000000000000 ∧
      after (exec (.absorb 1 0) { State.reset with len := BitVec.allOnes 256 }) (·.len) 0 = 7 := by decide

/-! ## Errors: the table of 2.10, and the priorities of R92 -/

theorem test_error_codes :
    after (performCurrent (placeCommand ⟨0x0000, 0⟩ State.reset)) (fun t => (t.rsps, statusWord t)) ([], 0) =
        ([{ err := true, data := 1 }], 0x12) ∧
      after (performCurrent (placeCommand ⟨0x1001, 0⟩ State.reset)) (fun t => (t.rsps, statusWord t)) ([], 0) =
        ([{ err := true, data := 2 }], 0x22) ∧
      after (performCurrent (placeCommand ⟨0x2900, 0⟩ State.reset)) (fun t => (t.rsps, statusWord t)) ([], 0) =
        ([{ err := true, data := 3 }], 0x32) ∧
      after (exec (.absorb 0 0) finished) (fun t => (t.rsps, statusWord t)) ([], 0) = ([{ err := true, data := 4 }], 0x42) ∧
      after (exec .final finished) (fun t => (t.rsps, statusWord t)) ([], 0) = ([{ err := true, data := 5 }], 0x52) ∧
      after (exec (.rddig 0) State.reset) (fun t => (t.rsps, statusWord t)) ([], 0) = ([{ err := true, data := 6 }], 0x62) ∧
      after (exec (.wrlen 0 0) finished) (fun t => (t.rsps, statusWord t)) ([], 0) = ([{ err := true, data := 7 }], 0x72) ∧
      after (exec (.absorb 0 0) failed) (fun t => (t.rsps, statusWord t)) ([], 0) = ([{ err := true, data := 8 }], 0x42) := by
  decide

/-- R92: code 3 before code 4, and code 8 before code 5; V-ST8: the first code is kept. -/
theorem test_error_priority :
    after (performCurrent (placeCommand ⟨0x2900, 0⟩ finished)) (·.rsps) [] = [{ err := true, data := 3 }] ∧
      after (exec .final failed) (·.rsps) [] = [{ err := true, data := 8 }] ∧
      after (performCurrent (placeCommand ⟨0x0000, 0⟩ failed)) (fun t => (t.rsps, t.errCode)) ([], .none) =
        ([{ err := true, data := 1 }], .updateAfterFinal) := by decide

/-! ## The port, and reset -/

/-- R48: the idle block accepts what is presented, and does not perform it in the same step. -/
theorem test_step_accepts :
    after (step { State.reset with pending := [.command ⟨0x7060, 8⟩] })
      (fun t => (t.busy, t.curHdr, t.curData, t.pending, t.len, t.rsps)) (false, 0, 0, [], 1, []) =
      (true, 0x7060, 8, [], 0, []) := by decide

/-- R99: asserting `rst` abandons the command in progress without a response, and `cmd_ready` is 0. -/
theorem test_step_assert_abandons :
    after (step { placeCommand ⟨0x7060, 8⟩ failed with pending := [.assertRst] })
      (fun t => (t.rst, cmdReady t, t.busy, t.rsps)) (false, true, true, []) = (true, false, false, []) := by decide

/-- R99: a command presented while `rst` is asserted is held; the release leaves the reset values and a ready block. -/
theorem test_step_held_and_released :
    after (step { failed with rst := true, pending := [.command ⟨0x1000, 0⟩] }) (fun t => (t.busy, t.pending, t.rsps))
        (true, [], []) = (false, [.command ⟨0x1000, 0⟩], []) ∧
      after (step { failed with rst := true, len := 8, pending := [.releaseRst] })
        (fun t => (statusWord t, t.len, cmdReady t, t.rsps)) (1, 1, false, []) = (0, 0, true, []) := by decide

/-- P4 command 4 through the placed word: the next step performs it. -/
theorem test_step_placed_word :
    after (step (finished.withFetchWord 16 0x2100)) (fun t => (t.rsps, statusWord t)) ([], 0) =
      ([{ err := true, data := 4 }], 0x42) := by decide

/-- R39, 2.12: the digest as text starts with D[0]'s high nibble. -/
theorem test_digest_text :
    (digestText #v[0x19fa61d75522a466, 0, 0, 0, 0, 0, 0, 0x08b138cc42a66eb3]).toList.take 8 =
      ['1', '9', 'f', 'a', '6', '1', 'd', '7'] := by decide +kernel

/-- R58: eight bytes, then the rest left-aligned; P2's last ABSORB carries three bytes. -/
theorem test_absorbstr_eleven :
    absorbStr (counting 11) = [.absorb 8 0x0001020304050607, .absorb 3 0x08090a0000000000] := by decide

/-! ## Witnesses: for each statement with hypotheses, values that meet them -/

/-- A block with WRLEN 3, 5 in progress. -/
def Tests.writing : State := placeCommand ⟨0x7060, 5⟩ State.reset

/-- Asserted with a command in progress; held with a command presented, with nothing, and at the release. -/
theorem witness_ResetTakesPrecedence :
    ({ writing with pending := [.assertRst] } : State).rst = false ∧
      ({ writing with pending := [.assertRst] } : State).pending = .assertRst :: [] ∧
      (assertReset { writing with pending := [.command ⟨0x1000, 0⟩] }).rst = true ∧
      (assertReset { writing with pending := [.command ⟨0x1000, 0⟩] }).pending = .command ⟨0x1000, 0⟩ :: [] ∧
      (assertReset writing).rst = true ∧
      (assertReset { writing with pending := [.releaseRst] }).rst = true ∧
      (assertReset { writing with pending := [.releaseRst] }).pending = .releaseRst :: [] :=
  ⟨rfl, rfl, rfl, rfl, rfl, rfl, rfl⟩

theorem witness_StepPerformsDecodedCommand :
    writing.busy = true ∧ noResetNext writing = true ∧ decode writing.curHdr writing.curData = .legal (.wrlen 3 5) := by decide

theorem witness_StepRefusesIllegalHeader :
    (∀ h : Header, (placeCommand ⟨h, 0⟩ State.reset).busy = true ∧ noResetNext (placeCommand ⟨h, 0⟩ State.reset) = true) ∧
      decode (placeCommand ⟨0x8000, 0⟩ State.reset).curHdr 0 = .illegal .opcode ∧
      decode (placeCommand ⟨0x1001, 0⟩ State.reset).curHdr 0 = .illegal .reserved ∧
      decode (placeCommand ⟨0x2900, 0⟩ State.reset).curHdr 0 = .illegal .operand :=
  ⟨fun _ => ⟨rfl, rfl⟩, by decide⟩

theorem witness_IdleBlockAcceptsCommand :
    cmdReady { State.reset with pending := [.command ⟨0x1000, 0⟩] } = true ∧
      ({ State.reset with pending := [.command ⟨0x1000, 0⟩] } : State).pending = .command ⟨0x1000, 0⟩ :: [] := ⟨rfl, rfl⟩

theorem witness_BusyBlockHoldsPresentedCommand :
    ({ writing with pending := [.command ⟨0x1000, 0⟩] } : State).busy = true ∧
      noResetNext { writing with pending := [.command ⟨0x1000, 0⟩] } = true := ⟨rfl, rfl⟩

theorem witness_IdleBlockHoldsState :
    cmdReady State.reset = true ∧ State.reset.pending = [] ∧
      cmdReady { State.reset with pending := [.await, .assertRst] } = true ∧
      ({ State.reset with pending := [.await, .assertRst] } : State).pending = .await :: [.assertRst] ∧
      cmdReady { State.reset with pending := [.releaseRst] } = true ∧
      ({ State.reset with pending := [.releaseRst] } : State).pending = .releaseRst :: [] := ⟨rfl, rfl, rfl, rfl, rfl, rfl⟩

theorem witness_PresentedCommandsAreServedInOrder :
    cmdReady { State.reset with pending := [.command ⟨0x2100, 0⟩, .command ⟨0x8000, 0⟩] } = true ∧
      ({ State.reset with pending := [.command ⟨0x2100, 0⟩, .command ⟨0x8000, 0⟩] } : State).pending =
        [(⟨0x2100, 0⟩ : Command), ⟨0x8000, 0⟩].map HostAction.command := ⟨rfl, rfl⟩

theorem witness_PlacedTableWordIsPerformed : decodeTableWord 16 0x2800 = some (.absorb 8 0) := by decide

theorem witness_StepKeepsInvariant :
    writing.Inv ∧ step writing = .next (respond false 0 { writing with len := setLenWord 0 3 5 }) :=
  ⟨⟨by decide, by decide, by decide, by decide, by decide, by decide⟩, rfl⟩

theorem witness_DecodeOfEncode :
    (Instr.absorb 8 5).wf = true ∧ (Instr.rdlen 3).wf = true ∧ (Instr.wrlen 3 5).wf = true ∧ (Instr.rddig 7).wf = true := by decide

theorem witness_EncodeOfDecode :
    decode 0x2800 5 = .legal (.absorb 8 5) ∧ opOf 0x2800 = 2 ∧ decode 0x7060 5 = .legal (.wrlen 3 5) ∧ opOf 0x7060 = 7 := by
  decide

/-- The fields of a header as numbers. -/
def Tests.fields (hdr : Header) : List Nat :=
  [hdr.toNat / 4096, hdr.toNat / 256 % 16, hdr.toNat / 32 % 8, hdr.toNat % 32]

/-- For each clause in turn, headers at the ends of its ranges, with their fields op, cnt, idx, rsv. -/
theorem witness_DecodeChecksInOrder :
    decode writing.curHdr writing.curData = .legal (.wrlen 3 5) ∧
      decode (placeCommand ⟨0xf000, 7⟩ failed).curHdr (placeCommand ⟨0xf000, 7⟩ failed).curData = .illegal .opcode ∧
      [0x0001, 0x8000, 0xf000].map fields = [[0, 0, 0, 1], [8, 0, 0, 0], [15, 0, 0, 0]] ∧
      [0x1001, 0x701f].map fields = [[1, 0, 0, 1], [7, 0, 0, 31]] ∧
      [0x1100, 0x3020, 0x5f00].map fields = [[1, 1, 0, 0], [3, 0, 1, 0], [5, 15, 0, 0]] ∧
      [0x2020, 0x29e0].map fields = [[2, 0, 1, 0], [2, 9, 7, 0]] ∧
      [0x4100, 0x6180, 0x7f00].map fields = [[4, 1, 0, 0], [6, 1, 4, 0], [7, 15, 0, 0]] ∧
      [0x2900, 0x2f00].map fields = [[2, 9, 0, 0], [2, 15, 0, 0]] ∧
      [0x6080, 0x70e0].map fields = [[6, 0, 4, 0], [7, 0, 7, 0]] ∧
      [0x1000, 0x2000, 0x2800, 0x3000].map fields = [[1, 0, 0, 0], [2, 0, 0, 0], [2, 8, 0, 0], [3, 0, 0, 0]] ∧
      [0x4000, 0x40e0, 0x5000].map fields = [[4, 0, 0, 0], [4, 0, 7, 0], [5, 0, 0, 0]] ∧
      [0x6000, 0x6060, 0x7000, 0x7060].map fields = [[6, 0, 0, 0], [6, 0, 3, 0], [7, 0, 0, 0], [7, 0, 3, 0]] := by decide

theorem witness_UnusedDataIsIgnored : opOf 0x1000 ≠ 2 ∧ opOf 0x1000 ≠ 7 := by decide

theorem witness_EveryTermRunsAsItsHeader :
    (placeCommand (encode (.absorb 9 5)) State.reset).busy = true ∧
      noResetNext (placeCommand (encode (.absorb 9 5)) State.reset) = true ∧
      (placeCommand (encode (.absorb 9 5)) State.reset).curHdr = (encode (.absorb 9 5)).hdr ∧
      (placeCommand (encode (.absorb 9 5)) State.reset).curData = (encode (.absorb 9 5)).data := ⟨rfl, rfl, rfl, rfl⟩

theorem witness_RoundConstantValues : 0 < 10 ∧ 0 < 8 ∧ 9 < 10 ∧ 7 < 8 := by decide

/-- The bounds of the two clauses meet at 10, where both give the same ten rounds. -/
theorem witness_CoreRunsTenRounds : 10 ≤ 10 := by decide

theorem witness_AbsorbWithinBlock :
    (8 : BitVec 4).toNat ≤ 8 ∧ (holding (counting 55) 440).phase = .absorb ∧
      (holding (counting 55) 440).nb.val + (8 : BitVec 4).toNat < 64 := by decide

theorem witness_AbsorbAcrossBlock :
    (1 : BitVec 4).toNat ≤ 8 ∧ (holding (counting 63) 504).phase = .absorb ∧
      64 ≤ (holding (counting 63) 504).nb.val + (1 : BitVec 4).toNat := by decide

theorem witness_AbsorbIgnoresBytesBeyondCount :
    ∀ i, i < (3 : BitVec 4).toNat → byteOf 0x6162630000000000 i = byteOf 0x616263ffffffffff i := by decide

theorem witness_AbsorbRefusedOutsideAbsorb :
    (0 : BitVec 4).toNat ≤ 8 ∧ (8 : BitVec 4).toNat ≤ 8 ∧ finished.phase = .done ∧ failed.phase = .error := by decide

/-- One and two blocks at the boundary, and the two error phases. -/
theorem witness_FinalCompressesPaddedBlocks :
    (holding (counting 31) 248).phase = .absorb ∧ (holding (counting 31) 248).buffered.length = 31 ∧
      (holding (counting 32) 256).phase = .absorb ∧ (holding (counting 32) 256).buffered.length = 32 ∧
      finished.phase = .done ∧ failed.phase = .error := by decide

theorem witness_RddigReturnsDigestWord :
    finished.phase = .done ∧ State.reset.phase = .absorb ∧ failed.phase = .error := ⟨rfl, rfl, rfl⟩

theorem witness_RdlenReturnsLengthWord :
    (3 : BitVec 3).toNat ≤ 3 ∧ State.reset.phase ≠ .error ∧ finished.phase ≠ .error ∧ failed.phase = .error := by decide

theorem witness_WrlenWritesLengthWord :
    (3 : BitVec 3).toNat ≤ 3 ∧ State.reset.phase = .absorb ∧ 0 ≤ 3 ∧ 0 ≠ (3 : BitVec 3).toNat ∧ finished.phase = .done ∧
      failed.phase = .error := by decide

theorem witness_CommandsWriteOnlyTheirState :
    exec (.wrlen 3 5) State.reset = .next (respond false 0 { State.reset with len := setLenWord 0 3 5 }) ∧
      (respond false 0 { State.reset with len := setLenWord 0 3 5 }).len ≠ State.reset.len ∧
      exec (.wrlen 3 5) finished = .next (raiseError .wrlenAfterFinal finished) ∧
      (raiseError .wrlenAfterFinal finished).phase ≠ finished.phase ∧
      (raiseError .wrlenAfterFinal finished).errCode ≠ finished.errCode := ⟨rfl, by decide, rfl, by decide, by decide⟩

theorem witness_ErringCommandHasNoPartialEffect :
    performCurrent (placeCommand ⟨0x8000, 0⟩ State.reset) =
        .next (raiseError .illegalOpcode (placeCommand ⟨0x8000, 0⟩ State.reset)) ∧
      (raiseError .illegalOpcode (placeCommand ⟨0x8000, 0⟩ State.reset)).rsps =
        (placeCommand ⟨0x8000, 0⟩ State.reset).rsps ++ [{ err := true, data := 1 }] ∧
      performCurrent (placeCommand ⟨0x3000, 0⟩ failed) = .next (raiseError .rejectedInError (placeCommand ⟨0x3000, 0⟩ failed)) ∧
      (raiseError .rejectedInError (placeCommand ⟨0x3000, 0⟩ failed)).rsps =
        (placeCommand ⟨0x3000, 0⟩ failed).rsps ++ [{ err := true, data := 8 }] := ⟨rfl, rfl, rfl, rfl⟩

theorem witness_ErrorLeftOnlyByInit :
    (placeCommand ⟨0x3000, 0⟩ failed).phase = .error ∧
      decode (placeCommand ⟨0x3000, 0⟩ failed).curHdr (placeCommand ⟨0x3000, 0⟩ failed).curData ≠ .legal .init ∧
      performCurrent (placeCommand ⟨0x3000, 0⟩ failed) = .next (raiseError .rejectedInError (placeCommand ⟨0x3000, 0⟩ failed)) :=
  ⟨rfl, by decide, rfl⟩

theorem witness_PhaseTransitions :
    performCurrent (placeCommand ⟨0x1000, 0⟩ failed) =
        .next (respond false 0 (clearAccumulator (placeCommand ⟨0x1000, 0⟩ failed))) ∧
      performCurrent (placeCommand ⟨0x5000, 0⟩ finished) =
        .next (respond false (statusWord (placeCommand ⟨0x5000, 0⟩ finished)) (placeCommand ⟨0x5000, 0⟩ finished)) := ⟨rfl, rfl⟩

theorem witness_ErrcodeRecordsFirstError :
    State.reset.phase ≠ .error ∧ State.reset.errCode = .none ∧
      (∀ c ∈ [(⟨0x8000, 0⟩ : Command), ⟨0x2900, 0⟩], decode c.hdr c.data ≠ .legal .init) ∧
      performAll [⟨0x8000, 0⟩, ⟨0x2900, 0⟩] State.reset =
        .next (raiseError .illegalOperand (accept ⟨0x2900, 0⟩ (raiseError .illegalOpcode (accept ⟨0x8000, 0⟩ State.reset)))) :=
  ⟨by decide, rfl, by decide, rfl⟩

theorem witness_CoreMicroStateUnobserved :
    State.reset.sameButCore { State.reset with core := { State.reset.core with cr := 3 } } := rfl

theorem witness_BufferTailUnobserved :
    (holding [1] 8).sameButTail { holding [1] 8 with buf := (holding [1] 8).buf.set 1 7, core := State.reset.core } :=
  ⟨rfl, by decide⟩

theorem witness_AbsorbChunkingInvariance :
    [Instr.absorb 2 0x6162000000000000].all isAbsorb = true ∧
      [Instr.absorb 1 0x61ff000000000000, .absorb 0 5, .absorb 1 0x6200000000000000].all isAbsorb = true ∧
      [Instr.absorb 2 0x6162000000000000].flatMap messageBytes =
        [Instr.absorb 1 0x61ff000000000000, .absorb 0 5, .absorb 1 0x6200000000000000].flatMap messageBytes ∧
      (holding (counting 63) 504).phase = .absorb := by decide

theorem witness_AbsorbRunAdvancesLengthAndCount :
    [Instr.absorb 8 0, .absorb 0 0].all isAbsorb = true ∧ (holding (counting 63) 1).phase = .absorb := by decide

/-- 31, 32 and 64 bytes. -/
theorem witness_CompressionCountOfMessage :
    (List.replicate 3 (Instr.absorb 8 0) ++ [Instr.absorb 7 0]).all isAbsorb = true ∧
      ((List.replicate 3 (Instr.absorb 8 0) ++ [Instr.absorb 7 0]).flatMap messageBytes).length = 31 ∧
      (List.replicate 4 (Instr.absorb 8 0)).all isAbsorb = true ∧
      ((List.replicate 4 (Instr.absorb 8 0)).flatMap messageBytes).length = 32 ∧
      (List.replicate 8 (Instr.absorb 8 0)).all isAbsorb = true ∧
      ((List.replicate 8 (Instr.absorb 8 0)).flatMap messageBytes).length = 64 := by decide

theorem witness_AbsorbedMessageState : [Instr.absorb 8 0, .absorb 3 0].all isAbsorb = true := by decide

end Sys2Proof.Machine
end

/-! SUPPORT. The reasoning rules of the byte view (R10): a byte of a word as a number, and the bytes of a word that `be64`
builds. The two rules of concatenation are the library's at the width of a byte: with the right part's width a numeral,
`simp` finds the left part's width from the numeral widths that `be64` has. -/

namespace Sys2Proof.Machine

@[simp] theorem extractLsb'_append_byte_low {n : Nat} (x : BitVec n) (b : Byte) : (x ++ b).extractLsb' 0 8 = b :=
  BitVec.extractLsb'_append_eq_right

@[simp] theorem extractLsb'_append_byte_high {n : Nat} (x : BitVec n) (b : Byte) (i : Nat) :
    (x ++ b).extractLsb' (i + 8) 8 = x.extractLsb' i 8 := by
  rw [BitVec.extractLsb'_append_eq_of_le (Nat.le_add_left 8 i), Nat.add_sub_cancel]

/-- R10: bits 63-8k to 56-8k as a number. -/
theorem byteOf_toNat (w : Word) (k : Nat) : (byteOf w k).toNat = w.toNat / 2 ^ (56 - 8 * k) % 256 := by
  rw [byteOf, BitVec.extractLsb'_toNat, Nat.shiftRight_eq_div_pow]

/-- R10: byte k starts at bit 56-8k, so the 7-k bytes to the right of `b_k` are passed over one by one, and `b_k` is then
the lowest byte of what is left. -/
theorem byteOf_be64 (b0 b1 b2 b3 b4 b5 b6 b7 : Byte) (k : Fin 8) :
    byteOf (be64 b0 b1 b2 b3 b4 b5 b6 b7) k.val = #v[b0, b1, b2, b3, b4, b5, b6, b7][k] := by
  fin_cases k <;> simp [byteOf, be64]

/-- Settles O20: the value of a byte is `byteOf_toNat`, and the bytes of a `be64` word are `byteOf_be64`. -/
theorem wordBytesBigEndian : Obligations.WordBytesBigEndian := by
  unfold Obligations.WordBytesBigEndian
  refine ⟨fun w k => byteOf_toNat w k.val, fun b k => ?_⟩
  rw [byteOf_be64]
  fin_cases k <;> rfl

end Sys2Proof.Machine

/-! SUPPORT. The length counter's add-with-carry (R18): the value that bytes hold with the most significant first, and what
the rule's loop does to it. -/

namespace Sys2Proof.Machine

/-- The bytes 0 to `n - 1` of `lb`, most significant first, are the low `n` base-256 digits of `v`: byte `j`, with `k` bytes
to its right, is digit `k`. -/
def HoldsBigEndian (n : Nat) (lb : Nat → Byte) (v : Nat) : Prop :=
  ∀ j k, j + k + 1 = n → (lb j).toNat = v / 256 ^ k % 256

/-- Without the last byte, the bytes hold the value without its last digit. -/
theorem HoldsBigEndian.init {n : Nat} {lb : Nat → Byte} {v : Nat} (h : HoldsBigEndian (n + 1) lb v) :
    HoldsBigEndian n lb (v / 256) := by
  intro j k hjk
  rw [h j (k + 1) (by omega), Nat.pow_succ', ← Nat.div_div_eq_div_mul]

/-- The last byte is the last digit. -/
theorem HoldsBigEndian.last {n : Nat} {lb : Nat → Byte} {v : Nat} (h : HoldsBigEndian (n + 1) lb v) :
    (lb n).toNat = v % 256 := by
  simpa using h n 0 rfl

/-- The bytes are digits of `v` if the last is the last digit and those before it hold the rest. -/
theorem HoldsBigEndian.snoc {n : Nat} {lb : Nat → Byte} {v : Nat} (hinit : HoldsBigEndian n lb (v / 256))
    (hlast : (lb n).toNat = v % 256) : HoldsBigEndian (n + 1) lb v := by
  intro j k hjk
  cases k with
  | zero => simpa [show j = n by omega] using hlast
  | succ k => rw [hinit j k (by omega), Nat.div_div_eq_div_mul, ← Nat.pow_succ']

/-- A value determines the bytes that hold it. -/
theorem HoldsBigEndian.unique {n : Nat} {lb lb' : Nat → Byte} {v : Nat} (h : HoldsBigEndian n lb v)
    (h' : HoldsBigEndian n lb' v) {j : Nat} (hj : j < n) : lb j = lb' j := by
  have hk : j + (n - 1 - j) + 1 = n := by omega
  exact BitVec.eq_of_toNat_eq ((h j _ hk).trans (h' j _ hk).symm)

/-- The bytes do not see what lies above their digits. -/
theorem HoldsBigEndian.of_mod {n : Nat} {lb : Nat → Byte} {v : Nat} (h : HoldsBigEndian n lb (v % 256 ^ n)) :
    HoldsBigEndian n lb v := by
  intro j k hjk
  have hpow : 256 ^ n = 256 ^ k * (256 * 256 ^ j) := by rw [← hjk]; ring
  rw [h j k hjk, hpow, Nat.mod_mul_right_div_self, Nat.mod_mul_right_mod]

/-- LB is the big-endian view of L (R17). -/
theorem lenByte_holdsBigEndian (l : Length) : HoldsBigEndian 32 (lenByte l) l.toNat := by
  intro j k hjk
  have hbit : 248 - 8 * j = 8 * k := by omega
  rw [lenByte, BitVec.extractLsb'_toNat, Nat.shiftRight_eq_div_pow, hbit, Nat.pow_mul]

/-- The loop from byte `n - 1` downwards leaves the bytes from `n` upwards alone. -/
theorem addCarryLoop_of_le {n j : Nat} (lb : Nat → Byte) (d : Word) (carry : Nat) (h : n ≤ j) :
    addCarryLoop n lb d carry j = lb j := by
  induction n generalizing lb d carry with
  | zero => rfl
  | succ n ih => rw [addCarryLoop, ih _ _ _ (by omega), if_neg (by omega)]

/-- One pass of R18's loop adds the last digits and the carry in, and hands on the rest of the sum: the sum without its last
digit is the sum of the operands without theirs and the carry out. -/
theorem sum_div_eq_add_carry (v d c : Nat) :
    (v + d + c) / 256 = v / 256 + d / 256 + (v % 256 + d % 256 + c) / 256 := by
  omega

/-- R18's loop adds `d` and the carry to the value of the bytes; the carry out of byte 0 is lost. -/
theorem addCarryLoop_holdsBigEndian {n : Nat} {lb : Nat → Byte} {v : Nat} (d : Word) (carry : Nat)
    (h : HoldsBigEndian n lb v) : HoldsBigEndian n (addCarryLoop n lb d carry) (v + d.toNat + carry) := by
  induction n generalizing lb v d carry with
  | zero => exact fun j k hjk => absurd hjk (by omega)
  | succ n ih =>
    have hlow : (d.extractLsb' 0 8).toNat = d.toNat % 256 := by simp
    have hhigh : (d >>> 8).toNat = d.toNat / 256 := by simp [Nat.shiftRight_eq_div_pow]
    rw [addCarryLoop, h.last, hlow]
    refine .snoc ?_ ?_
    · rw [sum_div_eq_add_carry v, ← hhigh]
      refine ih _ _ fun j k hjk => ?_
      rw [if_neg (by omega), h.init j k hjk]
    · rw [addCarryLoop_of_le _ _ _ le_rfl, if_pos rfl, BitVec.toNat_ofNat]
      omega

/-- The value of the counter after an advance (R18). -/
theorem advanceLength_toNat (l : Length) (d : Word) :
    (advanceLength l d).toNat = (l.toNat + d.toNat) % 2 ^ 256 := by
  rw [advanceLength, BitVec.toNat_add, BitVec.toNat_setWidth_of_le (by decide)]

/-- Settles O24: the loop's bytes and the bytes of the advanced counter hold the same value, `L + d`. -/
theorem lengthByteLoopAddsModulo : Obligations.LengthByteLoopAddsModulo := by
  unfold Obligations.LengthByteLoopAddsModulo
  refine fun l d => ⟨List.map_congr_left fun j hj => ?_, advanceLength_toNat l d⟩
  have hloop : HoldsBigEndian 32 (addCarryLoop 32 (lenByte l) d 0) (l.toNat + d.toNat) :=
    addCarryLoop_holdsBigEndian d 0 (lenByte_holdsBigEndian l)
  have hsum : HoldsBigEndian 32 (lenByte (advanceLength l d)) (l.toNat + d.toNat) := by
    have hview := lenByte_holdsBigEndian (advanceLength l d)
    rw [advanceLength_toNat] at hview
    exact .of_mod hview
  exact hloop.unique hsum (List.mem_range.mp hj)

/-- Settles O1: H and BUF are all zero by `Vector.getElem_replicate`, the other elements are the values written in
`State.reset`, and STATUS is computed from them. -/
theorem resetStateValues : Obligations.ResetStateValues := by
  unfold Obligations.ResetStateValues
  exact ⟨fun i => Vector.getElem_replicate i.isLt, rfl, fun i => Vector.getElem_replicate i.isLt, rfl, rfl, rfl, rfl,
    by decide⟩

end Sys2Proof.Machine

/-! SUPPORT. The block's words (R34): the one that an index selects, and its bytes. -/

namespace Sys2Proof.Machine

@[simp] theorem blockWords_getElem (blk : Block) (i : Fin 8) : (blockWords blk)[i] = blockWord blk i :=
  Vector.getElem_ofFn i.isLt

/-- R34: B[i] is `be64` of the eight block bytes from `8i` on, so its byte k is the k-th of them (`byteOf_be64`). -/
theorem byteOf_blockWord (blk : Block) (i k : Fin 8) : byteOf (blockWord blk i) k.val = blk[8 * i.val + k.val] := by
  rw [blockWord, byteOf_be64]
  fin_cases k <;> rfl

/-- Settles O21: the selected word is `blockWord`, and its bytes are `byteOf_blockWord`. -/
theorem blockParsedBigEndian : Obligations.BlockParsedBigEndian := by
  unfold Obligations.BlockParsedBigEndian
  intro blk i k
  rw [blockWords_getElem, byteOf_blockWord]

end Sys2Proof.Machine

/-! SUPPORT. Decoding as arithmetic on the header (R50, R54): the four fields as numbers, the conditions under which each of the
three codes is due, and what `decode` answers under each. -/

namespace Sys2Proof

theorem opOf_toNat (hdr : Header) : (opOf hdr).toNat = hdr.toNat / 4096 := by
  rw [opOf, toNat_field]
  omega

theorem cntOf_toNat (hdr : Header) : (cntOf hdr).toNat = hdr.toNat / 256 % 16 := toNat_field hdr 8 4

theorem idxOf_toNat (hdr : Header) : (idxOf hdr).toNat = hdr.toNat / 32 % 8 := toNat_field hdr 5 3

theorem rsvOf_toNat (hdr : Header) : (rsvOf hdr).toNat = hdr.toNat % 32 := by
  rw [rsvOf, toNat_field]
  omega

theorem cntOf_eq_ofNat (hdr : Header) : cntOf hdr = BitVec.ofNat 4 (hdr.toNat / 256 % 16) := by
  rw [← cntOf_toNat, BitVec.ofNat_toNat, BitVec.setWidth_eq]

theorem idxOf_eq_ofNat (hdr : Header) : idxOf hdr = BitVec.ofNat 3 (hdr.toNat / 32 % 8) := by
  rw [← idxOf_toNat, BitVec.ofNat_toNat, BitVec.setWidth_eq]

/-- The opcode stands for no command (R52). -/
abbrev NoSuchOpcode (op : Nat) : Prop := op = 0 ∨ 7 < op

/-- `rsv`, or a field that the opcode's command does not use, is not 0 (R53). -/
abbrev UnusedFieldSet (op cnt idx rsv : Nat) : Prop :=
  rsv ≠ 0 ∨ (op = 1 ∨ op = 3 ∨ op = 5) ∧ (cnt ≠ 0 ∨ idx ≠ 0) ∨ op = 2 ∧ idx ≠ 0 ∨ (op = 4 ∨ op = 6 ∨ op = 7) ∧ cnt ≠ 0

/-- ABSORB's count, or the word index of RDLEN and WRLEN, is past its range (R51). -/
abbrev OperandOutOfRange (op cnt idx : Nat) : Prop := op = 2 ∧ 8 < cnt ∨ (op = 6 ∨ op = 7) ∧ 3 < idx

/-- R54's checks with those of one code taken together: the four that answer `reserved` run one after another. -/
theorem decode_eq (hdr : Header) (data : Word) :
    decode hdr data =
      if NoSuchOpcode (opOf hdr).toNat then .illegal .opcode
      else if UnusedFieldSet (opOf hdr).toNat (cntOf hdr).toNat (idxOf hdr).toNat (rsvOf hdr).toNat then .illegal .reserved
      else if OperandOutOfRange (opOf hdr).toNat (cntOf hdr).toNat (idxOf hdr).toNat then .illegal .operand
      else commandOf (opOf hdr).toNat (cntOf hdr) (idxOf hdr) data := by
  have hzero {n : Nat} (x : BitVec n) : x ≠ 0 ↔ x.toNat ≠ 0 := by simp [← BitVec.toNat_inj]
  simp only [decode, hzero, ite_or]

/-- The last checks of R54 are the ranges of R51. -/
theorem wf_of_commandOf {op : Nat} {cnt : BitVec 4} {idx : BitVec 3} {data : Word} {i : Instr}
    (h : commandOf op cnt idx data = .legal i) (hrange : ¬OperandOutOfRange op cnt.toNat idx.toNat) : i.wf = true := by
  unfold commandOf at h
  split at h <;> cases h
  case h_2 | h_6 | h_7 => exact decide_eq_true (by omega)
  all_goals rfl

/-- R51, R54: a decoded command has its operands in range. -/
theorem wf_of_decode_legal {hdr : Header} {data : Word} {i : Instr} (h : decode hdr data = .legal i) : i.wf = true := by
  rw [decode_eq] at h
  split_ifs at h with _ _ hrange
  exact wf_of_commandOf h hrange

section NumericFields

/-! The fields of a header as the numbers that R50's bit positions give. -/

variable {hdr : Header} {op cnt idx rsv : Nat} (data : Word) (hop : op = hdr.toNat / 4096)
  (hcnt : cnt = hdr.toNat / 256 % 16) (hidx : idx = hdr.toNat / 32 % 8) (hrsv : rsv = hdr.toNat % 32)

include hop

theorem decode_of_noSuchOpcode (h : NoSuchOpcode op) : decode hdr data = .illegal .opcode := by
  rw [decode_eq, opOf_toNat, ← hop, if_pos h]

include hcnt hidx hrsv

theorem decode_of_unusedFieldSet (hknown : ¬NoSuchOpcode op) (h : UnusedFieldSet op cnt idx rsv) :
    decode hdr data = .illegal .reserved := by
  rw [decode_eq, opOf_toNat, cntOf_toNat, idxOf_toNat, rsvOf_toNat, ← hop, ← hcnt, ← hidx, ← hrsv, if_neg hknown, if_pos h]

theorem decode_of_operandOutOfRange (hknown : ¬NoSuchOpcode op) (hunused : ¬UnusedFieldSet op cnt idx rsv)
    (h : OperandOutOfRange op cnt idx) : decode hdr data = .illegal .operand := by
  rw [decode_eq, opOf_toNat, cntOf_toNat, idxOf_toNat, rsvOf_toNat, ← hop, ← hcnt, ← hidx, ← hrsv, if_neg hknown,
    if_neg hunused, if_pos h]

theorem decode_of_checks_pass (hknown : ¬NoSuchOpcode op) (hunused : ¬UnusedFieldSet op cnt idx rsv)
    (hrange : ¬OperandOutOfRange op cnt idx) :
    decode hdr data = commandOf op (BitVec.ofNat 4 cnt) (BitVec.ofNat 3 idx) data := by
  rw [decode_eq, opOf_toNat, cntOf_toNat, idxOf_toNat, rsvOf_toNat, cntOf_eq_ofNat, idxOf_eq_ofNat, ← hop, ← hcnt, ← hidx,
    ← hrsv, if_neg hknown, if_neg hunused, if_neg hrange]

end NumericFields

end Sys2Proof

/-! SUPPORT. What the command in progress does, by the table of R91: whether it ends through the error entry or succeeds, and
its one response (R56). -/

namespace Sys2Proof.Machine

/-- A command with an illegal header ends through the error entry (R54, R92). -/
theorem performCurrent_of_illegal {s : State} {why : Illegal} (h : decode s.curHdr s.curData = .illegal why) :
    performCurrent s = .next (raiseError (illegalCode why) s) := by
  simp only [performCurrent, h]

/-- The codes of R54 are those of R91's table, in every phase. -/
theorem illegalCode_toNat (why : Illegal) (p : Phase) :
    (illegalCode why).code.toNat = raisedCode (.illegal why) p := by
  cases why <;> rfl

/-- Only NONE has code 0 (R91). -/
theorem one_le_code {c : ErrorCode} (h : c ≠ .none) : 1 ≤ c.code.toNat := by
  cases c with
  | none => exact absurd rfl h
  | _ => decide

/-- WRLEN's effect, for folding it back where the phase is split: the record update mentions the phase field as well. -/
theorem effectOf_wrlen (idx : BitVec 3) (data : Word) (s : State) :
    effectOf (.wrlen idx data) s = { s with len := setLenWord s.len idx.toNat data } := rfl

/-- A command with legal operands errs with the code that R91's table has for it in this phase, or, where the table has none,
responds on the state its effect leaves. -/
theorem exec_of_wf {i : Instr} (s : State) (h : i.wf = true) :
    (∃ c, c ≠ .none ∧ c.code.toNat = raisedCode (.legal i) s.phase ∧ exec i s = .next (raiseError c s)) ∨
      (raisedCode (.legal i) s.phase = 0 ∧ exec i s = .next (respond false (answerOf i s) (effectOf i s))) := by
  cases i with
  | init | rdstat => exact .inr ⟨rfl, rfl⟩
  | absorb cnt data =>
    rw [exec, execAbsorb, if_neg (not_lt.mpr (of_decide_eq_true h))]
    cases s.phase with
    | absorb => exact .inr ⟨rfl, rfl⟩
    | done => exact .inl ⟨.updateAfterFinal, by decide, rfl, rfl⟩
    | error => exact .inl ⟨.rejectedInError, by decide, rfl, rfl⟩
  | final =>
    rw [exec, execFinal]
    cases s.phase with
    | absorb => exact .inr ⟨rfl, rfl⟩
    | done => exact .inl ⟨.finalTwice, by decide, rfl, rfl⟩
    | error => exact .inl ⟨.rejectedInError, by decide, rfl, rfl⟩
  | rddig idx =>
    rw [exec, execRddig]
    cases s.phase with
    | absorb => exact .inl ⟨.digestBeforeFinal, by decide, rfl, rfl⟩
    | done => exact .inr ⟨rfl, rfl⟩
    | error => exact .inl ⟨.rejectedInError, by decide, rfl, rfl⟩
  | rdlen idx =>
    rw [exec, execRdlen, if_neg (not_lt.mpr (of_decide_eq_true h))]
    cases s.phase with
    | absorb | done => exact .inr ⟨rfl, rfl⟩
    | error => exact .inl ⟨.rejectedInError, by decide, rfl, rfl⟩
  | wrlen idx data =>
    rw [exec, execWrlen, if_neg (not_lt.mpr (of_decide_eq_true h)), ← effectOf_wrlen]
    cases s.phase with
    | absorb => exact .inr ⟨rfl, rfl⟩
    | done => exact .inl ⟨.wrlenAfterFinal, by decide, rfl, rfl⟩
    | error => exact .inl ⟨.rejectedInError, by decide, rfl, rfl⟩

/-- The command in progress errs with the code of R91's table, or is legal, has no code there, and responds on the state its
effect leaves. -/
theorem performCurrent_answers (s : State) :
    (∃ c, c ≠ .none ∧ c.code.toNat = raisedCode (decode s.curHdr s.curData) s.phase ∧
      performCurrent s = .next (raiseError c s)) ∨
    (∃ i, decode s.curHdr s.curData = .legal i ∧ raisedCode (.legal i) s.phase = 0 ∧
      performCurrent s = .next (respond false (answerOf i s) (effectOf i s))) := by
  rcases performCurrent_cases s with ⟨i, hdec, hperf⟩ | ⟨why, hdec, hperf⟩
  · rw [hperf, hdec]
    exact (exec_of_wf s (wf_of_decode_legal hdec)).imp_right fun ⟨hcode, hexec⟩ => ⟨i, rfl, hcode, hexec⟩
  · rw [hperf, hdec]
    exact .inl ⟨illegalCode why, by cases why <;> decide, illegalCode_toNat why s.phase, rfl⟩

theorem selectWord_eq_getD (ws : Words) (idx : BitVec 3) : selectWord ws idx = ws.toList.getD idx.toNat 0 := by
  have hlt : idx.toNat < ws.toList.length := by simpa using idx.isLt
  rw [selectWord, List.getD_eq_getElem _ _ hlt, Vector.getElem_toList]

/-- Settles O15: on a header given by its fields as numbers, the conditions of each clause are those of one of the four
`decode_of_…` lemmas, by arithmetic; the answer to an illegal header is the error entry's response. -/
theorem decodeChecksInOrder : Obligations.DecodeChecksInOrder := by
  unfold Obligations.DecodeChecksInOrder
  intro hdr data op cnt idx rsv hop hcnt hidx hrsv
  have hreserved := decode_of_unusedFieldSet data hop hcnt hidx hrsv
  have hoperand := decode_of_operandOutOfRange data hop hcnt hidx hrsv
  have hlegal := decode_of_checks_pass data hop hcnt hidx hrsv
  refine ⟨decode_of_noSuchOpcode data hop, fun _ _ _ => hreserved (by omega) (by omega),
    fun _ _ _ => hreserved (by omega) (by omega), fun _ _ _ => hreserved (by omega) (by omega),
    fun _ _ _ => hreserved (by omega) (by omega), fun _ _ _ _ => hoperand (by omega) (by omega) (by omega),
    fun _ _ _ _ => hoperand (by omega) (by omega) (by omega), ?_, ?_, ?_, ?_, ?_, ?_, ?_, ?illegalAnswer⟩
  case illegalAnswer =>
    rintro s why rfl rfl hdec
    refine ⟨_, performCurrent_of_illegal hdec, ?_⟩
    rw [raiseError_rsps]
    cases why <;> rfl
  all_goals
    intro h
    intros
    rw [hlegal (by omega) (by omega) (by omega), h]
    rfl

/-- Settles O49: `performCurrent_answers` gives the response, and both ways of ending leave BUSY 0. -/
theorem everyCommandAnswersOnce : Obligations.EveryCommandAnswersOnce := by
  unfold Obligations.EveryCommandAnswersOnce
  intro s
  rcases performCurrent_answers s with ⟨c, hc, hcode, hperf⟩ | ⟨i, hdec, -, hperf⟩
  · refine ⟨_, _, hperf, raiseError_busy c s, raiseError_rsps c s, fun _ => ?_, nofun⟩
    rw [BitVec.toNat_setWidth_of_le (by decide)]
    exact ⟨one_le_code hc, hcode⟩
  · have hrsps := respond_rsps false (answerOf i s) (effectOf i s)
    rw [effectOf_rsps] at hrsps
    refine ⟨_, _, hperf, respond_busy _ _ _, hrsps, nofun, fun _ => ⟨i, hdec, ?_⟩⟩
    cases i with
    | rddig idx => exact selectWord_eq_getD s.hash idx
    | _ => rfl

end Sys2Proof.Machine

/-! SUPPORT. The S-box (R59, R60) as three layers: the mini-boxes E and Einv undo each other, and the layer between them undoes
itself, so the construction has the inverse that runs the layers with E and Einv exchanged. -/

namespace Sys2Proof.Machine

theorem miniBoxE_miniBoxEinv (u : BitVec 4) : miniBoxE (miniBoxEinv u) = u := by
  decide +revert

theorem miniBoxEinv_miniBoxE (u : BitVec 4) : miniBoxEinv (miniBoxE u) = u := by
  decide +revert

/-- The table of R59 is what the construction of R60 gives, at each of the 256 bytes. -/
theorem sboxFromMiniBoxes_eq_sbox (u : Byte) : sboxFromMiniBoxes u = sbox u := by
  decide +kernel +revert

theorem xor_xor_xor_cancel_right {n : Nat} (a b t : BitVec n) : (a ^^^ t) ^^^ (b ^^^ t) = a ^^^ b := by
  calc (a ^^^ t) ^^^ (b ^^^ t) = a ^^^ b ^^^ (t ^^^ t) := by ac_rfl
    _ = a ^^^ b := by rw [BitVec.xor_self, BitVec.xor_zero]

theorem xor_xor_cancel_right {n : Nat} (a t : BitVec n) : a ^^^ t ^^^ t = a := by
  rw [BitVec.xor_assoc, BitVec.xor_self, BitVec.xor_zero]

/-- The construction of R60 with E and Einv exchanged, which runs its layers backwards. -/
def sboxPreimage (y : Byte) : Byte :=
  let a := miniBoxEinv (y.extractLsb' 4 4)
  let b := miniBoxE (y.extractLsb' 0 4)
  let t := miniBoxR (a ^^^ b)
  miniBoxEinv (a ^^^ t) ++ miniBoxE (b ^^^ t)

/-- `t` is a function of `a ^^^ b`, which adding `t` to both nibbles leaves as it is: so the second pass adds the same `t`
again. -/
theorem sboxFromMiniBoxes_sboxPreimage (y : Byte) : sboxFromMiniBoxes (sboxPreimage y) = y := by
  simp only [sboxFromMiniBoxes, sboxPreimage, BitVec.extractLsb'_append_eq_left, BitVec.extractLsb'_append_eq_right,
    miniBoxE_miniBoxEinv, miniBoxEinv_miniBoxE, xor_xor_xor_cancel_right, xor_xor_cancel_right]
  rw [BitVec.extractLsb'_append_extractLsb'_eq_extractLsb' (start₂ := 4) (start₁ := 0) rfl, BitVec.extractLsb'_eq_self]

/-- Settles O26: the agreement is `sboxFromMiniBoxes_eq_sbox`, and through it the construction run backwards gives each byte's
preimage. -/
theorem sboxIsMiniBoxPermutation : Obligations.SboxIsMiniBoxPermutation := by
  unfold Obligations.SboxIsMiniBoxPermutation
  refine ⟨sboxFromMiniBoxes_eq_sbox, fun y => ⟨sboxPreimage y, ?_⟩⟩
  rw [← sboxFromMiniBoxes_eq_sbox, sboxFromMiniBoxes_sboxPreimage]

end Sys2Proof.Machine

/-! SUPPORT. The diffusion tables (R62 to R64): C_0's listing, and the bytes of a rotated word. -/

namespace Sys2Proof.Machine

theorem romC_zero (x : Byte) : romC 0 x = tableC0 x := by
  rw [romC, Nat.mul_zero, BitVec.rotateRight_def]
  simp

theorem listingC0_eq_map_tableC0 : listingC0 = (List.range 256).map fun x => tableC0 (BitVec.ofNat 8 x) := by
  decide +kernel

/-- Settles O27: the listing is C_0 at the bytes in order, so it has an entry for each, and C_0 at byte x is entry x. -/
theorem diffusionListingAgrees : Obligations.DiffusionListingAgrees := by
  unfold Obligations.DiffusionListingAgrees
  rw [listingC0_eq_map_tableC0]
  refine ⟨by rw [List.length_map, List.length_range], fun x => ?_⟩
  rw [List.getElem?_map, List.getElem?_range x.isLt, Option.map_some, BitVec.ofNat_toNat, BitVec.setWidth_eq, romC_zero]

/-- Byte `j` of a word rotated right by `k` bytes starts `8k` bits higher up in the word, or, where that is past the top, as
much above bit 0: the two cases of `j - k` on `Fin 8`. -/
theorem byteOf_rotateRight (w : Word) (k j : Fin 8) :
    byteOf (w.rotateRight (8 * k.val)) j.val = byteOf w (j - k).val := by
  ext i hi
  have hk : 8 * k.val % 64 = 8 * k.val := by omega
  simp only [byteOf, BitVec.getElem_extractLsb', BitVec.getLsbD_rotateRight, hk]
  rcases le_or_gt k j with hkj | hkj
  · have hbit : 8 * k.val + (56 - 8 * j.val + i) = 56 - 8 * (j - k).val + i := by
      rw [Fin.sub_val_of_le hkj]; omega
    rw [decide_eq_true (by omega), cond_true, hbit]
  · have hbit : 56 - 8 * j.val + i - (64 - 8 * k.val) = 56 - 8 * (j - k).val + i := by
      rw [Fin.coe_sub_iff_lt.mpr hkj]; omega
    rw [decide_eq_false (by omega), cond_false, decide_eq_true (by omega), Bool.true_and, hbit]

/-- Settles O28: C_k is C_0 rotated by `k` bytes, and `byteOf_rotateRight` gives its bytes. -/
theorem diffusionTablesRotate : Obligations.DiffusionTablesRotate := by
  unfold Obligations.DiffusionTablesRotate
  intro k j x
  rw [romC_zero, romC, byteOf_rotateRight]

end Sys2Proof.Machine

/-! SUPPORT. The round constants (R65). -/

namespace Sys2Proof.Machine

theorem byteOf_romRC (r : Nat) (k : Fin 8) : byteOf (romRC r) k.val = sbox (BitVec.ofNat 8 (8 * r + k.val)) := by
  rw [romRC, byteOf_be64]
  fin_cases k <;> rfl

/-- Settles O29: the bytes are `byteOf_romRC`, for every `r`; the ten values are computed from the S-box. -/
theorem roundConstantValues : Obligations.RoundConstantValues := by
  unfold Obligations.RoundConstantValues
  exact ⟨fun r k _ hk => byteOf_romRC r ⟨k, hk⟩, by decide⟩

end Sys2Proof.Machine

/-! SUPPORT. The Compression Core (R69 to R74): what LOAD and one round leave in each register, the transform ρ as a fold over
the tables, and the loop of rounds as an iterate of one round. -/

namespace Sys2Proof.Machine

@[simp] theorem coreLoad_ck (blk : Block) (h : Words) : (coreLoad blk h).ck = h := rfl
@[simp] theorem coreLoad_cb (blk : Block) (h : Words) : (coreLoad blk h).cb = blockWords blk := rfl
@[simp] theorem coreLoad_cr (blk : Block) (h : Words) : (coreLoad blk h).cr = 0 := rfl

@[simp] theorem coreLoad_cs_getElem (blk : Block) (h : Words) (i : Fin 8) :
    (coreLoad blk h).cs[i] = blockWord blk i ^^^ h[i] :=
  Vector.getElem_ofFn i.isLt

@[simp] theorem keyRound_getElem (k : Words) (r : Nat) (j : Fin 8) :
    (keyRound k r)[j] = rhoWord k j ^^^ (if j = 0 then romRC r else 0) :=
  Vector.getElem_ofFn j.isLt

@[simp] theorem cipherRound_getElem (c k' : Words) (j : Fin 8) : (cipherRound c k')[j] = rhoWord c j ^^^ k'[j] :=
  Vector.getElem_ofFn j.isLt

@[simp] theorem coreRound_ck (c : CoreRegs) : (coreRound c).ck = keyRound c.ck c.cr.toNat := rfl
@[simp] theorem coreRound_cs (c : CoreRegs) : (coreRound c).cs = cipherRound c.cs (coreRound c).ck := rfl
@[simp] theorem coreRound_cb (c : CoreRegs) : (coreRound c).cb = c.cb := rfl
@[simp] theorem coreRound_cr (c : CoreRegs) : (coreRound c).cr = c.cr + 1 := rfl

/-- CR counts the rounds as long as its four bits hold the count. -/
theorem iterate_coreRound_cr {n : Nat} {c : CoreRegs} (h : c.cr.toNat + n < 16) :
    (coreRound^[n] c).cr.toNat = c.cr.toNat + n := by
  induction n with
  | zero => rfl
  | succ n ih =>
    rw [Function.iterate_succ_apply', coreRound_cr, BitVec.toNat_add, ih (by omega)]
    exact Nat.mod_eq_of_lt h

/-- The loop runs a round for each that CR has left up to 10, and stops there whatever larger bound it has (R74). -/
theorem coreRounds_eq_iterate {k n : Nat} {c : CoreRegs} (hcr : c.cr.toNat + k = 10) (hkn : k ≤ n) :
    coreRounds n c = coreRound^[k] c := by
  induction k generalizing n c with
  | zero =>
    cases n with
    | zero => rfl
    | succ n => rw [coreRounds, if_neg (by omega), Function.iterate_zero_apply]
  | succ k ih =>
    obtain ⟨n, rfl⟩ := Nat.exists_eq_add_of_le' (Nat.le_of_add_left_le hkn)
    have hnext : (coreRound c).cr.toNat = c.cr.toNat + 1 := iterate_coreRound_cr (n := 1) (by omega)
    rw [coreRounds, if_pos (by omega), ih (by omega) (by omega), Function.iterate_succ_apply]

theorem coreLoad_cr_toNat (blk : Block) (h : Words) : (coreLoad blk h).cr.toNat = 0 := rfl

/-- LOAD sets CR to 0, so ten rounds are left after it. -/
theorem coreRounds_coreLoad {n : Nat} (blk : Block) (h : Words) (hn : 10 ≤ n) :
    coreRounds n (coreLoad blk h) = coreRound^[10] (coreLoad blk h) :=
  coreRounds_eq_iterate (by rw [coreLoad_cr_toNat]) hn

/-- Settles O33: from CR = 0 the rounds count up to 10 (`iterate_coreRound_cr`), and the loop is ten of them
(`coreRounds_coreLoad`), also in the compression. -/
theorem coreRunsTenRounds : Obligations.CoreRunsTenRounds := by
  unfold Obligations.CoreRunsTenRounds
  refine fun blk h => ⟨fun r hr => ?_, fun n => coreRounds_coreLoad blk h, fun s => ?_⟩
  · rw [iterate_coreRound_cr (by rw [coreLoad_cr_toNat]; omega), coreLoad_cr_toNat, Nat.zero_add]
  · rw [runCore_hash, coreRounds_coreLoad _ _ le_rfl]

/-- `j - k` on `Fin 8` selects the word that R11's `(j - k) mod 8` does. -/
theorem getElem_sub_eq_getD (v : Words) (j k : Fin 8) : v[j - k] = v.toList.getD ((j.val + 8 - k.val) % 8) 0 := by
  have hsub : (j - k).val = (j.val + 8 - k.val) % 8 := by rw [Fin.val_sub]; omega
  rw [← hsub, List.getD_eq_getElem _ _ (by simp), Vector.getElem_toList, Fin.getElem_fin]

/-- The eight terms of R70 in the order of k. -/
theorem rhoWord_eq_foldl_finRange (v : Words) (j : Fin 8) :
    rhoWord v j = (List.finRange 8).foldl (fun acc k => acc ^^^ romC k.val (byteOf v[j - k] k.val)) 0 := by
  have hrange : List.finRange 8 = [0, 1, 2, 3, 4, 5, 6, 7] := rfl
  rw [hrange]
  simp only [List.foldl_cons, List.foldl_nil, BitVec.ofNat_eq_ofNat, BitVec.zero_xor, sub_zero]
  rfl

/-- Settles O30: `rhoWord_eq_foldl_finRange` on the numbers of the indices, with R11's indices for the words. -/
theorem rhoIsLookupXor : Obligations.RhoIsLookupXor := by
  unfold Obligations.RhoIsLookupXor
  intro v j
  rw [rhoWord_eq_foldl_finRange, ← List.map_coe_finRange_eq_range, List.foldl_map]
  simp only [getElem_sub_eq_getD]

/-- Settles O31: what LOAD leaves in each register, word by word. -/
theorem coreLoadsBlockAndHash : Obligations.CoreLoadsBlockAndHash := by
  unfold Obligations.CoreLoadsBlockAndHash
  exact fun blk h => ⟨coreLoad_cr blk h, fun i => ⟨blockWords_getElem blk i, rfl, coreLoad_cs_getElem blk h i⟩⟩

/-- Settles O32: what one round leaves in each register, with `keyRound` and `cipherRound` word by word. -/
theorem coreRoundReplacesTogether : Obligations.CoreRoundReplacesTogether := by
  unfold Obligations.CoreRoundReplacesTogether
  exact fun c => ⟨coreRound_cr c, coreRound_cb c, fun j => ⟨keyRound_getElem c.ck c.cr.toNat j,
    cipherRound_getElem c.cs (coreRound c).ck j⟩⟩

end Sys2Proof.Machine

/-! SUPPORT. The command INIT (R80): the error entry's exit, then a response without an error. -/

namespace Sys2Proof.Machine

/-- INIT asks nothing of the state: in no phase has it a code of R91's table. -/
theorem exec_init (s : State) : exec .init s = .next (respond false 0 (clearAccumulator s)) := rfl

@[simp] theorem clearAccumulator_hash_getElem (s : State) (i : Fin 8) : (clearAccumulator s).hash[i] = 0 :=
  Vector.getElem_replicate i.isLt

@[simp] theorem clearAccumulator_buf_getElem (s : State) (i : Fin 64) : (clearAccumulator s).buf[i] = 0 :=
  Vector.getElem_replicate i.isLt

/-- Settles O36: the next state is `exec_init`'s. Its elements are those `clearAccumulator` leaves, since the response keeps
them, and the last clause is the two record updates written as one. -/
theorem initStartsNewMessage : Obligations.InitStartsNewMessage := by
  unfold Obligations.InitStartsNewMessage
  intro s
  refine ⟨_, exec_init s, fun i => ?_, ?_, fun i => ?_, ?_, ?_, ?_, ?frame⟩
  case frame => rfl
  · rw [respond_hash, clearAccumulator_hash_getElem]
  · rw [respond_len, clearAccumulator_len]
  · rw [respond_buf, clearAccumulator_buf_getElem]
  · rw [respond_nb, clearAccumulator_nb]
  · rw [respond_phase, clearAccumulator_phase]
  · rw [respond_errCode, clearAccumulator_errCode]

end Sys2Proof.Machine

/-! SUPPORT. The commands that read and write the state word by word (R87 to R90): which of the two ways of ending a command with
legal operands takes in a given phase, and the words of the length counter after one of them is written. -/

namespace Sys2Proof.Machine

/-- The codes of R91 are told apart by their numbers. -/
theorem ErrorCode.eq_of_code_toNat_eq {c c' : ErrorCode} (h : c.code.toNat = c'.code.toNat) : c = c' := by
  have ofNat_code (c : ErrorCode) : ErrorCode.ofNat c.code.toNat = c := by cases c <;> rfl
  rw [← ofNat_code c, h, ofNat_code]

/-- Outside ERROR a code from 1 to 7 is latched, and the response carries it (R93). -/
theorem raiseError_outside_error {c : ErrorCode} {s : State} (hc : c.latches = true) (h : s.phase ≠ .error) :
    raiseError c s = respond true (c.code.setWidth 64) { s with phase := .error, errCode := c } := by
  rw [raiseError, latchError, if_pos ⟨hc, h⟩]

section PhaseGiven

/-! A command with legal operands, in the phase that its state holds. -/

variable {i : Instr} {s : State} {p : Phase} (hwf : i.wf = true) (hp : s.phase = p)
include hwf hp

/-- A command for which R91's table has no code succeeds. -/
theorem exec_succeeds (hcode : raisedCode (.legal i) p = 0) :
    exec i s = .next (respond false (answerOf i s) (effectOf i s)) := by
  subst hp
  rcases exec_of_wf s hwf with ⟨c, hc, hraised, -⟩ | ⟨-, hexec⟩
  · have hpos := one_le_code hc
    omega
  · exact hexec

/-- A command for which R91's table has a code ends through the error entry with it. -/
theorem exec_raises {c : ErrorCode} (hc : c ≠ .none) (hcode : raisedCode (.legal i) p = c.code.toNat) :
    exec i s = .next (raiseError c s) := by
  subst hp
  rcases exec_of_wf s hwf with ⟨c', -, hraised, hexec⟩ | ⟨hzero, -⟩
  · rw [hexec, ErrorCode.eq_of_code_toNat_eq (hraised.trans hcode)]
  · have hpos := one_le_code hc
    omega

end PhaseGiven

/-- A command refused by its own phase check latches its code, answers with it and does nothing else (R93). -/
theorem exec_latches {i : Instr} {s : State} {p : Phase} {c : ErrorCode} (hwf : i.wf = true) (hp : s.phase = p)
    (hne : p ≠ .error) (hc : c.latches = true) (hcode : raisedCode (.legal i) p = c.code.toNat) :
    exec i s = .next (respond true (c.code.setWidth 64) { s with phase := .error, errCode := c }) := by
  rw [exec_raises hwf hp (by rintro rfl; cases hc) hcode, raiseError_outside_error hc (hp ▸ hne)]

/-- A command refused because the block is in ERROR answers with code 8 and does nothing else (R93, R94). -/
theorem exec_rejected {i : Instr} {s : State} (hwf : i.wf = true) (hp : s.phase = .error)
    (hcode : raisedCode (.legal i) .error = 8) : exec i s = .next (respond true 8 s) := by
  rw [exec_raises hwf hp (c := .rejectedInError) nofun hcode, raiseError_in_error _ s hp]
  rfl

@[simp] theorem extractLsb'_append_word_low {n : Nat} (x : BitVec n) (w : Word) : (x ++ w).extractLsb' 0 64 = w :=
  BitVec.extractLsb'_append_eq_right

@[simp] theorem extractLsb'_append_word_high {n : Nat} (x : BitVec n) (w : Word) (i : Nat) :
    (x ++ w).extractLsb' (i + 64) 64 = x.extractLsb' i 64 := by
  rw [BitVec.extractLsb'_append_eq_of_le (Nat.le_add_left 64 i), Nat.add_sub_cancel]

/-- R17: word k starts at bit 192-64k, so the 3-k words to the right of word k are passed over one by one. -/
theorem lenWord_append (word : Nat → Word) {k : Nat} (hk : k ≤ 3) :
    lenWord (word 0 ++ word 1 ++ word 2 ++ word 3) k = word k := by
  interval_cases k <;> simp [lenWord]

/-- The words of L after word w is written (R90). -/
theorem lenWord_setLenWord (l : Length) (w : Nat) (data : Word) {k : Nat} (hk : k ≤ 3) :
    lenWord (setLenWord l w data) k = if k = w then data else lenWord l k := by
  rw [setLenWord]
  exact lenWord_append (fun k => if k = w then data else lenWord l k) hk

/-- Settles O45: in ABSORB the next state is the response on WRLEN's effect, whose words `lenWord_setLenWord` gives. -/
theorem wrlenWritesLengthWord : Obligations.WrlenWritesLengthWord := by
  unfold Obligations.WrlenWritesLengthWord
  intro idx data s hidx
  have hwf : (Instr.wrlen idx data).wf = true := decide_eq_true hidx
  refine ⟨fun h => ⟨_, exec_succeeds hwf h rfl, ?written, fun w hw hne => ?kept, rfl⟩,
    fun h => exec_latches (c := .wrlenAfterFinal) hwf h nofun rfl rfl, fun h => exec_rejected hwf h rfl⟩
  case written => rw [respond_len, effectOf_wrlen, lenWord_setLenWord _ _ _ hidx, if_pos rfl]
  case kept => rw [respond_len, effectOf_wrlen, lenWord_setLenWord _ _ _ hw, if_neg hne]

/-- Settles O42: DONE is the one phase in which R91's table has no code for RDDIG. -/
theorem rddigReturnsDigestWord : Obligations.RddigReturnsDigestWord := by
  unfold Obligations.RddigReturnsDigestWord
  intro idx s
  refine ⟨fun h => ?digest, fun h => exec_latches (c := .digestBeforeFinal) rfl h nofun rfl rfl,
    fun h => exec_rejected rfl h rfl⟩
  case digest =>
    rw [← selectWord_eq_getD]
    exact exec_succeeds rfl h rfl

/-- Settles O43: R91's table has a code for RDSTAT in no phase. -/
theorem rdstatReturnsStatus : Obligations.RdstatReturnsStatus := by
  unfold Obligations.RdstatReturnsStatus
  exact fun s => exec_succeeds rfl rfl rfl

/-- Settles O44: in ABSORB and in DONE R91's table has no code for RDLEN. -/
theorem rdlenReturnsLengthWord : Obligations.RdlenReturnsLengthWord := by
  unfold Obligations.RdlenReturnsLengthWord
  intro idx s hidx
  have hwf : (Instr.rdlen idx).wf = true := decide_eq_true hidx
  refine ⟨fun hne => exec_succeeds hwf rfl ?noCode, fun h => exec_rejected hwf h rfl⟩
  case noCode =>
    cases hp : s.phase with
    | absorb | done => rfl
    | error => exact absurd hp hne

end Sys2Proof.Machine

/-! SUPPORT. An erring command as a whole (R93): its next state is the error entry's, with a code that is latched unless the block
is in ERROR already. -/

namespace Sys2Proof.Machine

/-- Code 8 is raised in ERROR only (R91). -/
theorem raisedCode_le_seven (d : Decoded) {p : Phase} (hp : p ≠ .error) : raisedCode d p ≤ 7 := by
  cases d with
  | illegal why => cases why <;> simp [raisedCode]
  | legal i =>
    cases p with
    | error => exact absurd rfl hp
    | absorb | done => cases i <;> simp [raisedCode]

/-- The error entry's frame: of the block's elements it writes PHASE and ERRCODE alone (R93). -/
theorem raiseError_frame (c : ErrorCode) (s : State) :
    raiseError c s =
      { s with
        phase := (raiseError c s).phase, errCode := (raiseError c s).errCode, busy := false, rsps := (raiseError c s).rsps } :=
  State.ext (raiseError_hash c s) (raiseError_len c s) (raiseError_buf c s) (raiseError_nb c s) rfl rfl (raiseError_busy c s)
    (raiseError_rst c s) (raiseError_core c s) (raiseError_curHdr c s) (raiseError_curData c s) (raiseError_pending c s) rfl

/-- A command that answers with an error has gone through the error entry: a success answers without one. -/
theorem eq_raiseError_of_error_response {s t : State} {d : Word} (hperf : performCurrent s = .next t)
    (hrsps : t.rsps = s.rsps ++ [{ err := true, data := d }]) :
    ∃ c, t = raiseError c s ∧ d = c.code.setWidth 64 ∧ (s.phase ≠ .error → c.latches = true) := by
  rcases performCurrent_answers s with ⟨c, hc, hcode, herr⟩ | ⟨i, -, -, hok⟩
  · obtain rfl : t = raiseError c s := Host.Outcome.next.inj (hperf.symm.trans herr)
    have hdata : c.code.setWidth 64 = d := by simpa using hrsps
    refine ⟨c, rfl, hdata.symm, fun hp => decide_eq_true ⟨one_le_code hc, ?_⟩⟩
    rw [hcode]
    exact raisedCode_le_seven _ hp
  · obtain rfl : t = respond false (answerOf i s) (effectOf i s) := Host.Outcome.next.inj (hperf.symm.trans hok)
    simp at hrsps

/-- Settles O48: the next state is the error entry's (`eq_raiseError_of_error_response`), with its frame. In ERROR it only
responds, and outside it latches the code it answers with. -/
theorem erringCommandHasNoPartialEffect : Obligations.ErringCommandHasNoPartialEffect := by
  unfold Obligations.ErringCommandHasNoPartialEffect
  intro s t d hperf hrsps
  obtain ⟨c, rfl, rfl, hlatches⟩ := eq_raiseError_of_error_response hperf hrsps
  refine ⟨raiseError_frame c s, ?_⟩
  by_cases hp : s.phase = .error
  · rw [raiseError_in_error c s hp]
    exact ⟨hp, fun _ => rfl, fun hne => absurd hp hne⟩
  · rw [raiseError_outside_error (hlatches hp) hp]
    refine ⟨rfl, fun h => absurd h hp, fun _ => ⟨rfl, ?range⟩⟩
    case range =>
      rw [BitVec.toNat_setWidth_of_le (by decide)]
      exact of_decide_eq_true (hlatches hp)

end Sys2Proof.Machine

/-! SUPPORT. The invariant of command boundaries (R29), operation by operation: it says nothing of the host's side of the
ports, and each way a step can end keeps it. -/

namespace Sys2Proof.Machine

/-- The invariant says nothing of what the host does next, nor of what it has received. -/
theorem State.Inv.withHost {s : State} (h : s.Inv) (acts : List HostAction) (rs : List Response) :
    State.Inv { s with pending := acts, rsps := rs } :=
  ⟨h.error_iff, h.not_rejected, h.tail_zero, h.done_empty, h.rounds_le, h.held_idle⟩

/-- BUSY may fall at any time: only a command in progress under `rst` is excluded. -/
theorem State.Inv.idle {s : State} (h : s.Inv) : State.Inv { s with busy := false } :=
  ⟨h.error_iff, h.not_rejected, h.tail_zero, h.done_empty, h.rounds_le, fun _ => rfl⟩

/-- Settles O11: BUF is zero by `Vector.getElem_replicate`, and the other parts are about the values written in
`State.reset`. -/
theorem resetMeetsInvariant : Obligations.ResetMeetsInvariant := by
  unfold Obligations.ResetMeetsInvariant
  exact ⟨by decide, by decide, fun i _ => Vector.getElem_replicate i.isLt, nofun, by decide, nofun⟩

theorem inv_resetBlock (s : State) : (resetBlock s).Inv :=
  resetMeetsInvariant.withHost s.pending s.rsps

theorem inv_assertReset (s : State) : (assertReset s).Inv :=
  have h := inv_resetBlock s
  ⟨h.error_iff, h.not_rejected, h.tail_zero, h.done_empty, h.rounds_le, fun _ => rfl⟩

theorem State.Inv.heldStep {s : State} (h : s.Inv) : (heldStep s).Inv := by
  rcases heldStep_cases s with ⟨rest, -, heq⟩ | ⟨_, rest, -, -, heq⟩ | heq
  · rw [heq]
    exact inv_resetBlock _
  · rw [heq]
    exact h.withHost rest s.rsps
  · rwa [heq]

theorem State.Inv.accept {s : State} (h : s.Inv) (hrst : s.rst = false) (c : Command) : (accept c s).Inv :=
  ⟨h.error_iff, h.not_rejected, h.tail_zero, h.done_empty, h.rounds_le, fun hr => absurd (hrst.symm.trans hr) nofun⟩

theorem State.Inv.respond {s : State} (h : s.Inv) (err : Bool) (data : Word) : (respond err data s).Inv :=
  h.idle.withHost _ _

/-- A latched code is one of 1 to 7, so neither NONE nor 8 (R91, R93). -/
theorem State.Inv.latchError {s : State} (h : s.Inv) (c : ErrorCode) : (latchError c s).Inv := by
  rcases latchError_cases c s with ⟨hc, -, heq⟩ | ⟨-, heq⟩
  · have hne : c ≠ .none := by rintro rfl; cases hc
    have hne8 : c ≠ .rejectedInError := by rintro rfl; cases hc
    rw [heq]
    exact ⟨iff_of_true rfl hne, hne8, h.tail_zero, nofun, h.rounds_le, h.held_idle⟩
  · rwa [heq]

theorem State.Inv.raiseError {s : State} (h : s.Inv) (c : ErrorCode) : (raiseError c s).Inv :=
  (h.latchError c).respond _ _

theorem State.Inv.errCode_eq_none {s : State} (h : s.Inv) (hp : s.phase ≠ .error) : s.errCode = .none :=
  not_not.mp (mt h.error_iff.mpr hp)

/-- A compression leaves CR at 10 (R74). -/
theorem coreRounds_coreLoad_cr (blk : Block) (h : Words) : (coreRounds 10 (coreLoad blk h)).cr.toNat = 10 := by
  rw [coreRounds_coreLoad _ _ le_rfl, iterate_coreRound_cr (by rw [coreLoad_cr_toNat]; omega), coreLoad_cr_toNat]

theorem State.Inv.clearAccumulator {s : State} (h : s.Inv) : (clearAccumulator s).Inv :=
  ⟨by simp, by simp, fun i _ => clearAccumulator_buf_getElem s i, fun _ => rfl, h.rounds_le, h.held_idle⟩

/-- An absorbed byte lands on the first byte of the zero tail, which then starts one place further up, or the whole buffer is
zero after the block's completion. -/
theorem State.Inv.absorbByte {s : State} (h : s.Inv) (hp : s.phase = .absorb) (b : Byte) : (absorbByte b s).Inv := by
  rcases absorbByte_cases b s with ⟨hnb, heq⟩ | ⟨-, heq⟩
  · rw [heq]
    refine ⟨h.error_iff, h.not_rejected, fun i hi => ?tail, fun hd => ?_, h.rounds_le, h.held_idle⟩
    case tail =>
      have hlt : s.nb.val < i.val := by
        have hsucc : (s.nb + 1).val = s.nb.val + 1 := Fin.val_add_one_of_lt' hnb
        have hle : (s.nb + 1).val ≤ i.val := hi
        omega
      have hset : (s.buf.set s.nb.val b s.nb.isLt)[i] = s.buf[i] := Vector.getElem_set_ne _ _ hlt.ne
      exact hset.trans (h.tail_zero i hlt.le)
    · exact absurd (hp.symm.trans hd) nofun
  · rw [heq, completeBlock_eq]
    refine ⟨?_, ?_, fun i _ => Vector.getElem_replicate i.isLt, fun _ => rfl, ?_, ?_⟩
    · simpa using h.error_iff
    · simpa using h.not_rejected
    · simp only [runCore_core, coreRounds_coreLoad_cr, le_refl]
    · simpa using h.held_idle

theorem State.Inv.absorbBytes {s : State} (h : s.Inv) (hp : s.phase = .absorb) (bs : List Byte) :
    (absorbBytes bs s).Inv := by
  induction bs generalizing s with
  | nil => exact h
  | cons b bs ih => exact ih (h.absorbByte hp b) (by rw [absorbByte_phase, hp])

theorem State.Inv.finishMessage {s : State} (h : s.Inv) (hp : s.phase ≠ .error) : (finishMessage s).Inv := by
  refine ⟨?_, ?_, fun i _ => ?_, fun _ => finishMessage_nb s, ?_, ?_⟩
  · rw [finishMessage_phase, finishMessage_errCode, h.errCode_eq_none hp]
    decide
  · rw [finishMessage_errCode]
    exact h.not_rejected
  · rw [finishMessage_buf]
    exact Vector.getElem_replicate i.isLt
  · simp only [finishMessage_eq, runCore_core, coreRounds_coreLoad_cr, le_refl]
  · rw [finishMessage_rst, finishMessage_busy]
    exact h.held_idle

/-- A command that R91's table lets through keeps the invariant: ABSORB and FINAL are let through in ABSORB only. -/
theorem State.Inv.effectOf {s : State} (h : s.Inv) {i : Instr} (hok : raisedCode (.legal i) s.phase = 0) :
    (effectOf i s).Inv := by
  cases i with
  | init => exact h.clearAccumulator
  | absorb cnt data =>
    cases hp : s.phase with
    | absorb => exact h.absorbBytes hp _
    | done | error => rw [hp] at hok; cases hok
  | final =>
    refine h.finishMessage fun hp => ?_
    rw [hp] at hok
    cases hok
  | rddig idx | rdstat | rdlen idx => exact h
  | wrlen idx data => exact ⟨h.error_iff, h.not_rejected, h.tail_zero, h.done_empty, h.rounds_le, h.held_idle⟩

theorem State.Inv.performCurrent {s t : State} (h : s.Inv) (hperf : performCurrent s = .next t) : t.Inv := by
  rcases performCurrent_answers s with ⟨c, -, -, heq⟩ | ⟨i, -, hok, heq⟩
  · obtain rfl := Host.Outcome.next.inj (heq.symm.trans hperf)
    exact h.raiseError c
  · obtain rfl := Host.Outcome.next.inj (heq.symm.trans hperf)
    exact (h.effectOf hok).respond _ _

/-- Settles O12: one case for each thing a step does (`step_cases`), each by the operation's own lemma. -/
theorem stepKeepsInvariant : Obligations.StepKeepsInvariant := by
  unfold Obligations.StepKeepsInvariant
  intro s t h hstep
  rcases step_cases s with ⟨-, heq⟩ | ⟨-, rest, -, heq⟩ | ⟨-, -, heq⟩ | ⟨hready, c, rest, -, heq⟩ | ⟨-, a, rest, -, -, heq⟩ |
    ⟨-, -, heq⟩ <;> rw [heq] at hstep
  case inr.inr.inl => exact h.performCurrent hstep
  all_goals obtain rfl := Host.Outcome.next.inj hstep
  · exact h.heldStep
  · exact inv_assertReset _
  · exact (h.withHost rest s.rsps).accept ((cmdReady_iff s).mp hready).2 c
  · exact h.withHost rest s.rsps
  · exact h

end Sys2Proof.Machine

/-! SUPPORT. Encoding and decoding as inverses (R50 to R54): a header is its four fields, what `decode` answers on an encoding,
and what it accepts. -/

namespace Sys2Proof

/-- A header is the concatenation of its fields (R50). -/
theorem headerOf_fields (hdr : Header) : headerOf (opOf hdr) (cntOf hdr) (idxOf hdr) (rsvOf hdr) = hdr := by
  apply BitVec.eq_of_toNat_eq
  rw [headerOf_toNat, opOf_toNat, cntOf_toNat, idxOf_toNat, rsvOf_toNat]
  omega

/-- The fields read back from any command's encoding are its own. -/
theorem encode_fields (i : Instr) : Laws.EncodeFields.Statement i := by
  cases i with
  | init => exact Laws.EncodeFields.init
  | absorb cnt data => exact Laws.EncodeFields.absorb cnt data
  | final => exact Laws.EncodeFields.final
  | rddig idx => exact Laws.EncodeFields.rddig idx
  | rdstat => exact Laws.EncodeFields.rdstat
  | rdlen idx => exact Laws.EncodeFields.rdlen idx
  | wrlen idx data => exact Laws.EncodeFields.wrlen idx data

theorem opcode_known (i : Instr) : ¬NoSuchOpcode (opcode i).toNat := by
  cases i <;> simp [opcode]

/-- An encoding has 0 in every field its command does not use (R53). -/
theorem unused_fields_clear (i : Instr) :
    ¬UnusedFieldSet (opcode i).toNat (cntField i).toNat (idxField i).toNat (0 : BitVec 5).toNat := by
  cases i <;> simp [opcode, cntField, idxField]

/-- The ranges of R51 are the last checks of R54. -/
theorem operandOutOfRange_iff (i : Instr) :
    OperandOutOfRange (opcode i).toNat (cntField i).toNat (idxField i).toNat ↔ i.wf = false := by
  cases i <;> simp [OperandOutOfRange, opcode, cntField, idxField, Instr.wf]

theorem commandOf_fields (i : Instr) : commandOf (opcode i).toNat (cntField i) (idxField i) (dataField i) = .legal i := by
  cases i <;> rfl

/-- R54 on the encoding of any term: the term itself if its operands are in range, and the operand check's refusal if not. -/
theorem decode_encode (i : Instr) :
    decode (encode i).hdr (encode i).data = if i.wf = true then .legal i else .illegal .operand := by
  obtain ⟨hop, hcnt, hidx, hrsv⟩ := encode_fields i
  rw [decode_eq, hop, hcnt, hidx, hrsv, if_neg (opcode_known i), if_neg (unused_fields_clear i)]
  by_cases hwf : i.wf = true
  · rw [if_neg (by rw [operandOutOfRange_iff, hwf]; decide), if_pos hwf]
    exact commandOf_fields i
  · rw [if_pos ((operandOutOfRange_iff i).mpr (Bool.eq_false_iff.mpr hwf)), if_neg hwf]

/-- Settles O13: on an encoding no check of R54 fails but that of the ranges, which the command passes (`decode_encode`). -/
theorem decodeOfEncode : Obligations.DecodeOfEncode := by
  unfold Obligations.DecodeOfEncode
  intro i hwf
  rw [decode_encode, if_pos hwf]

/-- A command read from fields of which the unused ones are 0 has just those fields in its encoding (R52, R53). -/
theorem fields_of_commandOf {op cnt : BitVec 4} {idx : BitVec 3} {rsv : BitVec 5} {data : Word} {i : Instr}
    (h : commandOf op.toNat cnt idx data = .legal i) (hunused : ¬UnusedFieldSet op.toNat cnt.toNat idx.toNat rsv.toNat) :
    opcode i = op ∧ cntField i = cnt ∧ idxField i = idx ∧ rsv = 0 ∧ (op.toNat = 2 ∨ op.toNat = 7 → dataField i = data) := by
  have hzero {n : Nat} {x : BitVec n} (hx : x.toNat = 0) : 0 = x := BitVec.eq_of_toNat_eq (by simpa using hx.symm)
  have hrsv : rsv = 0 := (hzero (by omega)).symm
  unfold commandOf at h
  split at h <;> cases h
  case h_1 hop | h_3 hop | h_5 hop =>
    exact ⟨BitVec.eq_of_toNat_eq hop.symm, hzero (by omega), hzero (by omega), hrsv, fun hused => by omega⟩
  case h_4 hop | h_6 hop => exact ⟨BitVec.eq_of_toNat_eq hop.symm, hzero (by omega), rfl, hrsv, fun hused => by omega⟩
  case h_2 hop => exact ⟨BitVec.eq_of_toNat_eq hop.symm, rfl, hzero (by omega), hrsv, fun _ => rfl⟩
  case h_7 hop => exact ⟨BitVec.eq_of_toNat_eq hop.symm, hzero (by omega), rfl, hrsv, fun _ => rfl⟩

/-- Settles O14: the command has its operands in range (`wf_of_decode_legal`), and its fields are the header's
(`fields_of_commandOf`), of which the header is made (`headerOf_fields`). -/
theorem encodeOfDecode : Obligations.EncodeOfDecode := by
  unfold Obligations.EncodeOfDecode
  intro hdr data i hdec
  refine ⟨wf_of_decode_legal hdec, ?_⟩
  rw [decode_eq] at hdec
  split_ifs at hdec with _ hunused _
  obtain ⟨hop, hcnt, hidx, hrsv, hdata⟩ := fields_of_commandOf hdec hunused
  refine ⟨?_, fun hused => hdata (hused.imp (congrArg BitVec.toNat) (congrArg BitVec.toNat))⟩
  calc (encode i).hdr = headerOf (opcode i) (cntField i) (idxField i) 0 := rfl
    _ = headerOf (opOf hdr) (cntOf hdr) (idxOf hdr) (rsvOf hdr) := by rw [hop, hcnt, hidx, hrsv]
    _ = hdr := headerOf_fields hdr

/-- Settles O17: each of the seven words is computed. -/
theorem opcodeMapWordsDecode : Obligations.OpcodeMapWordsDecode := by
  unfold Obligations.OpcodeMapWordsDecode
  decide

/-- Only ABSORB and WRLEN take the data operand (R51). -/
theorem commandOf_data_unused {op : Nat} (cnt : BitVec 4) (idx : BitVec 3) (data data' : Word) (h2 : op ≠ 2) (h7 : op ≠ 7) :
    commandOf op cnt idx data = commandOf op cnt idx data' := by
  unfold commandOf
  split
  case h_2 => exact absurd rfl h2
  case h_7 => exact absurd rfl h7
  all_goals rfl

/-- Settles O18: the checks of R54 read the header alone, and the command that passes them does not take the data. -/
theorem unusedDataIsIgnored : Obligations.UnusedDataIsIgnored := by
  unfold Obligations.UnusedDataIsIgnored
  intro hdr data data' h2 h7
  have hnat {n : BitVec 4} (h : opOf hdr ≠ n) : (opOf hdr).toNat ≠ n.toNat := mt BitVec.eq_of_toNat_eq h
  rw [decode_eq, decode_eq, commandOf_data_unused _ _ data data' (hnat h2) (hnat h7)]

/-- The well-formed commands, with 0 for the data operand, which is no part of the header (R55). -/
def legalCommands : List Instr :=
  [.init, .final, .rdstat] ++ (List.range 9).map (fun n => .absorb (BitVec.ofNat 4 n) 0) ++
    (List.range 8).map (fun n => .rddig (BitVec.ofNat 3 n)) ++ (List.range 4).map (fun n => .rdlen (BitVec.ofNat 3 n)) ++
    (List.range 4).map (fun n => .wrlen (BitVec.ofNat 3 n) 0)

/-- The headers of the well-formed commands. -/
def legalHeaders : List Header := legalCommands.map fun i => (encode i).hdr

theorem wf_of_mem_legalCommands {i : Instr} (h : i ∈ legalCommands) : i.wf = true := by
  decide +revert

/-- The operand fields are narrow enough to try every value; the data operand does not reach the header. -/
theorem hdr_mem_legalHeaders {i : Instr} (h : i.wf = true) : (encode i).hdr ∈ legalHeaders := by
  cases i with
  | init | final | rdstat => decide
  | absorb cnt data =>
    have hcnt : (Instr.absorb cnt 0).wf = true := h
    change (encode (.absorb cnt 0)).hdr ∈ legalHeaders
    clear h
    decide +revert
  | rddig idx => decide +revert
  | rdlen idx => decide +revert
  | wrlen idx data =>
    have hidx : (Instr.wrlen idx 0).wf = true := h
    change (encode (.wrlen idx 0)).hdr ∈ legalHeaders
    clear h
    decide +revert

/-- Settles O16: the 28 headers are those of the well-formed commands, each of which decodes to its command
(`decode_encode`), and an accepted header is the encoding of one (`encodeOfDecode`). -/
theorem twentyEightLegalHeaders : Obligations.TwentyEightLegalHeaders := by
  unfold Obligations.TwentyEightLegalHeaders
  refine ⟨legalHeaders, by decide, rfl, fun hdr => ⟨fun hmem => ?_, fun ⟨data, i, hdec⟩ => ?_⟩⟩
  · obtain ⟨i, hi, rfl⟩ := List.mem_map.mp hmem
    exact ⟨(encode i).data, i, decodeOfEncode i (wf_of_mem_legalCommands hi)⟩
  · obtain ⟨hwf, rfl, -⟩ := encodeOfDecode hdr data i hdec
    exact hdr_mem_legalHeaders hwf

end Sys2Proof

/-! SUPPORT. One step of the port (R48, R99, R102), for each thing the host and the block can be at: what it answers, and
what it leaves. -/

namespace Sys2Proof.Machine

theorem step_of_rst {s : State} (hrst : s.rst = true) : step s = .next (heldStep s) := by
  simp only [step, portStep, hrst]

theorem step_of_assertRst {s : State} {rest : List HostAction} (hrst : s.rst = false) (hp : s.pending = .assertRst :: rest) :
    step s = .next (assertReset { s with pending := rest }) := by
  simp only [step, portStep, hrst, hp]

theorem noResetNext_rst {s : State} (h : noResetNext s = true) : s.rst = false := by
  rw [noResetNext, Bool.and_eq_true, Bool.not_eq_true'] at h
  exact h.1

theorem noResetNext_pending {s : State} (h : noResetNext s = true) (rest : List HostAction) :
    s.pending ≠ .assertRst :: rest := by
  intro hp
  rw [noResetNext, hp, Bool.and_false] at h
  cases h

/-- A command in progress is performed unless a reset comes first: of what a step does, the other cases are those of a block
under reset, of one that reset comes to, and of a ready one. -/
theorem step_of_busy {s : State} (hbusy : s.busy = true) (hreset : noResetNext s = true) : step s = performCurrent s := by
  have hready : cmdReady s ≠ true := fun h => absurd (hbusy.symm.trans ((cmdReady_iff s).mp h).1) nofun
  rcases step_cases s with ⟨hrst, -⟩ | ⟨-, rest, hp, -⟩ | ⟨-, -, heq⟩ | ⟨h, -⟩ | ⟨h, -⟩ | ⟨h, -⟩
  · exact absurd ((noResetNext_rst hreset).symm.trans hrst) nofun
  · exact absurd hp (noResetNext_pending hreset rest)
  · exact heq
  all_goals exact absurd h hready

section Ready

/-! The block that accepts a command if one is presented. -/

variable {s : State} {rest : List HostAction} (hready : cmdReady s = true)
include hready

theorem step_of_command {c : Command} (hp : s.pending = .command c :: rest) :
    step s = .next (accept c { s with pending := rest }) := by
  obtain ⟨hbusy, hrst⟩ := (cmdReady_iff s).mp hready
  simp only [step, portStep, hrst, hbusy, hp]

theorem step_of_await (hp : s.pending = .await :: rest) : step s = .next { s with pending := rest } := by
  obtain ⟨hbusy, hrst⟩ := (cmdReady_iff s).mp hready
  simp only [step, portStep, hrst, hbusy, hp]

theorem step_of_releaseRst (hp : s.pending = .releaseRst :: rest) : step s = .next { s with pending := rest } := by
  obtain ⟨hbusy, hrst⟩ := (cmdReady_iff s).mp hready
  simp only [step, portStep, hrst, hbusy, hp]

theorem step_of_nothing_pending (hp : s.pending = []) : step s = .next s := by
  obtain ⟨hbusy, hrst⟩ := (cmdReady_iff s).mp hready
  simp only [step, portStep, hrst, hbusy, hp]

end Ready

theorem performCurrent_of_legal {s : State} {i : Instr} (h : decode s.curHdr s.curData = .legal i) :
    performCurrent s = exec i s := by
  simp only [performCurrent, h]

/-- A success adds its own response to those there (R56). -/
theorem respond_effectOf_rsps (data : Word) (i : Instr) (s : State) :
    (respond false data (effectOf i s)).rsps = s.rsps ++ [{ err := false, data := data }] := by
  rw [respond_rsps, effectOf_rsps]

/-- The command in progress leaves the ports as a response does: BUSY falls, one response is added, and the reset level and the
host's queue are not touched (R23, R56). -/
theorem performCurrent_ports (s : State) :
    ∃ t r, performCurrent s = .next t ∧ t.busy = false ∧ t.rst = s.rst ∧ t.pending = s.pending ∧ t.rsps = s.rsps ++ [r] := by
  rcases performCurrent_answers s with ⟨c, -, -, heq⟩ | ⟨i, -, -, heq⟩
  · exact ⟨_, _, heq, raiseError_busy c s, raiseError_rst c s, raiseError_pending c s, raiseError_rsps c s⟩
  · exact ⟨_, _, heq, respond_busy _ _ _, effectOf_rst i s, effectOf_pending i s, respond_effectOf_rsps _ i s⟩

@[simp] theorem heldStep_rsps (s : State) : (heldStep s).rsps = s.rsps := by
  rcases heldStep_cases s with ⟨rest, -, heq⟩ | ⟨_, rest, -, -, heq⟩ | heq <;> rw [heq]
  rfl

theorem heldStep_of_command {s : State} {c : Command} {rest : List HostAction} (hp : s.pending = .command c :: rest) :
    heldStep s = s := by
  simp only [heldStep, hp]

theorem heldStep_of_releaseRst {s : State} {rest : List HostAction} (hp : s.pending = .releaseRst :: rest) :
    heldStep s = resetBlock { s with pending := rest } := by
  simp only [heldStep, hp]

/-- Settles O2: the four situations of `rst`, asserted, held, held with a command presented, and released, by the step's
equation for each. -/
theorem resetTakesPrecedence : Obligations.ResetTakesPrecedence := by
  unfold Obligations.ResetTakesPrecedence
  refine ⟨fun s rest hrst hp => ?asserted, fun s hrst => ⟨?notReady, _, step_of_rst hrst, heldStep_rsps s, ?held⟩,
    fun s c rest hrst hp => ?presented, fun s rest hrst hp => ?released⟩
  case asserted => exact ⟨_, step_of_assertRst hrst hp, rfl, rfl, rfl, rfl, rfl⟩
  case notReady => rw [cmdReady, hrst, Bool.not_true, Bool.and_false]
  case held =>
    rcases heldStep_cases s with ⟨rest, hp, -⟩ | ⟨_, rest, -, -, heq⟩ | heq
    · exact .inl ⟨rest, hp⟩
    · exact .inr (by rw [heq])
    · exact .inr (by rw [heq])
  case presented => rw [step_of_rst hrst, heldStep_of_command hp]
  case released =>
    rw [step_of_rst hrst, heldStep_of_releaseRst hp]
    exact ⟨_, rfl, fun i => Vector.getElem_replicate i.isLt, rfl, fun i => Vector.getElem_replicate i.isLt, rfl, rfl, rfl, rfl,
      rfl, rfl, rfl, rfl⟩

/-- Settles O3: the step performs the command in progress, which is `exec` of the decoded one. -/
theorem stepPerformsDecodedCommand : Obligations.StepPerformsDecodedCommand := by
  unfold Obligations.StepPerformsDecodedCommand
  intro s i hbusy hreset hdec
  rw [step_of_busy hbusy hreset, performCurrent_of_legal hdec]

/-- Settles O4: the error entry with the code of the reason, which is latched outside ERROR and only answered in it. -/
theorem stepRefusesIllegalHeader : Obligations.StepRefusesIllegalHeader := by
  unfold Obligations.StepRefusesIllegalHeader
  intro s why hbusy hreset hdec
  rw [step_of_busy hbusy hreset, performCurrent_of_illegal hdec]
  by_cases hp : s.phase = .error
  · rw [raiseError_in_error _ s hp, if_pos hp, ← hp]
    cases why <;> rfl
  · rw [raiseError_outside_error (by cases why <;> rfl) hp, if_neg hp]
    cases why <;> rfl

/-- Settles O5: the acceptance is one record update. -/
theorem idleBlockAcceptsCommand : Obligations.IdleBlockAcceptsCommand := by
  unfold Obligations.IdleBlockAcceptsCommand
  exact fun s c rest hready hp => step_of_command hready hp

/-- Settles O6: the step performs the command in progress, with what that leaves at the ports (`performCurrent_ports`). -/
theorem busyBlockHoldsPresentedCommand : Obligations.BusyBlockHoldsPresentedCommand := by
  unfold Obligations.BusyBlockHoldsPresentedCommand
  intro s hbusy hreset
  obtain ⟨t, r, hperf, htbusy, hrst, hpending, hrsps⟩ := performCurrent_ports s
  refine ⟨by rw [cmdReady, hbusy, Bool.not_true, Bool.false_and], t, r, ?_, hpending, htbusy, ?_, hrsps⟩
  · rw [step_of_busy hbusy hreset, hperf]
  · exact (cmdReady_iff t).mpr ⟨htbusy, hrst.trans (noResetNext_rst hreset)⟩

/-- Settles O7: the step's equations for a ready block to which no command is presented. -/
theorem idleBlockHoldsState : Obligations.IdleBlockHoldsState := by
  unfold Obligations.IdleBlockHoldsState
  exact fun s hready => ⟨step_of_nothing_pending hready, fun _ => step_of_await hready, fun _ => step_of_releaseRst hready⟩

/-- Settles O8: performing the command in progress answers a next state (`performCurrent_ports`), and every other thing a step
does is one. -/
theorem everyStepAnswersNext : Obligations.EveryStepAnswersNext := by
  unfold Obligations.EveryStepAnswersNext
  intro s
  rcases step_cases s with ⟨-, heq⟩ | ⟨-, rest, -, heq⟩ | ⟨-, -, heq⟩ | ⟨-, c, rest, -, heq⟩ | ⟨-, a, rest, -, -, heq⟩ |
    ⟨-, -, heq⟩
  case inr.inr.inl =>
    obtain ⟨t, -, hperf, -⟩ := performCurrent_ports s
    exact ⟨t, heq.trans hperf⟩
  all_goals exact ⟨_, heq⟩

/-- A command placed in progress is not followed by a reset at once: the host waits first (log entry 2). -/
theorem noResetNext_placeCommand (c : Command) (s : State) : noResetNext (placeCommand c s) = true := by
  simp only [noResetNext, placeCommand, accept_rst, accept_pending]
  rcases s.pending with _ | ⟨_ | _ | _ | _, rest⟩ <;> rfl

theorem decode_of_decodeTableWord {nbits w : Nat} {i : Instr} (h : decodeTableWord nbits w = some i) :
    decode (commandOfTableWord nbits w).hdr (commandOfTableWord nbits w).data = .legal i := by
  rw [decodeTableWord] at h
  split at h
  · next hdec => rw [hdec, Option.some.inj h]
  · cases h

/-- Settles O10: the placed word is latched, with nothing to come before it, so the step is the decoded command's. -/
theorem placedTableWordIsPerformed : Obligations.PlacedTableWordIsPerformed := by
  unfold Obligations.PlacedTableWordIsPerformed
  intro s nbits w i h
  exact stepPerformsDecodedCommand _ i rfl (noResetNext_placeCommand _ s) (decode_of_decodeTableWord h)

/-- A term with an operand out of range answers as its header is refused (log entry 7). -/
theorem exec_of_not_wf {i : Instr} (s : State) (h : i.wf = false) : exec i s = .next (raiseError .illegalOperand s) := by
  cases i with
  | init | final | rddig idx | rdstat => cases h
  | absorb cnt data => rw [exec, execAbsorb, if_pos (not_le.mp (of_decide_eq_false h))]
  | rdlen idx => rw [exec, execRdlen, if_pos (not_le.mp (of_decide_eq_false h))]
  | wrlen idx data => rw [exec, execWrlen, if_pos (not_le.mp (of_decide_eq_false h))]

/-- Settles O19: a term in range is what its encoding decodes to, and one out of range is refused either way with code 3. -/
theorem everyTermRunsAsItsHeader : Obligations.EveryTermRunsAsItsHeader := by
  unfold Obligations.EveryTermRunsAsItsHeader
  intro i s hbusy hreset hhdr hdata
  have hdec := decode_encode i
  rw [← hhdr, ← hdata] at hdec
  rw [step_of_busy hbusy hreset]
  by_cases hwf : i.wf = true
  · rw [if_pos hwf] at hdec
    exact performCurrent_of_legal hdec
  · rw [if_neg hwf] at hdec
    rw [performCurrent_of_illegal hdec, exec_of_not_wf s (Bool.eq_false_iff.mpr hwf)]
    rfl

end Sys2Proof.Machine

/-! SUPPORT. What no operation reads: the core's micro-state, the bytes of BUF at NB and above (R19, R24). -/

namespace Sys2Proof.Machine

/-- Two states in which the same command is in progress in the same phase end it the same way. -/
theorem performCurrent_congr {s t : State} (hhdr : t.curHdr = s.curHdr) (hdata : t.curData = s.curData)
    (hp : t.phase = s.phase) :
    (∃ c, performCurrent s = .next (raiseError c s) ∧ performCurrent t = .next (raiseError c t)) ∨
    (∃ i, performCurrent s = .next (respond false (answerOf i s) (effectOf i s)) ∧
      performCurrent t = .next (respond false (answerOf i t) (effectOf i t))) := by
  have ht := performCurrent_answers t
  rw [hhdr, hdata, hp] at ht
  rcases performCurrent_answers s with ⟨c, hc, hcode, hs⟩ | ⟨i, hdec, hcode, hs⟩ <;>
    rcases ht with ⟨c', hc', hcode', ht⟩ | ⟨i', hdec', hcode', ht⟩
  · obtain rfl := ErrorCode.eq_of_code_toNat_eq (hcode.trans hcode'.symm)
    exact .inl ⟨c, hs, ht⟩
  · rw [hdec', hcode'] at hcode
    exact absurd (hcode ▸ one_le_code hc) (by decide)
  · rw [hdec, hcode] at hcode'
    exact absurd (hcode' ▸ one_le_code hc') (by decide)
  · obtain rfl := Decoded.legal.inj (hdec.symm.trans hdec')
    exact .inr ⟨i, hs, ht⟩

/-- `t` is `s` but for the micro-state and bytes of BUF at NB and above, those in `Q` excepted. With every byte in `Q` it is
`State.sameButCore`, with none `State.sameButTail`. -/
inductive AgreesOn (Q : Fin 64 → Prop) (s : State) : State → Prop
  | mk (buf : Block) (core : CoreRegs) (h : ∀ i : Fin 64, i < s.nb ∨ Q i → buf[i] = s.buf[i]) :
    AgreesOn Q s { s with buf := buf, core := core }

theorem agreesOn_all_iff (s t : State) : AgreesOn (fun _ => True) s t ↔ s.sameButCore t := by
  constructor
  · rintro ⟨buf, core, h⟩
    obtain rfl : buf = s.buf := Vector.ext fun i hi => h ⟨i, hi⟩ (.inr trivial)
    rfl
  · intro h
    rw [h]
    exact ⟨s.buf, t.core, fun _ _ => rfl⟩

theorem agreesOn_none_iff (s t : State) : AgreesOn (fun _ => False) s t ↔ s.sameButTail t := by
  constructor
  · rintro ⟨buf, core, h⟩
    exact ⟨rfl, fun i hi => h i (.inl hi)⟩
  · rintro ⟨h, hbuf⟩
    rw [h]
    exact ⟨t.buf, t.core, fun i hi => hbuf i (hi.resolve_right id)⟩

section Agree

variable {Q : Fin 64 → Prop} {s t : State}

theorem agreesOn_of_core (core : CoreRegs) : AgreesOn Q s { s with core := core } :=
  ⟨s.buf, core, fun _ _ => rfl⟩

theorem agreesOn_refl (s : State) : AgreesOn Q s s :=
  agreesOn_of_core s.core

namespace AgreesOn

theorem phase (h : AgreesOn Q s t) : t.phase = s.phase := by obtain ⟨buf, core, -⟩ := h; rfl
theorem rst (h : AgreesOn Q s t) : t.rst = s.rst := by obtain ⟨buf, core, -⟩ := h; rfl
theorem curHdr (h : AgreesOn Q s t) : t.curHdr = s.curHdr := by obtain ⟨buf, core, -⟩ := h; rfl
theorem curData (h : AgreesOn Q s t) : t.curData = s.curData := by obtain ⟨buf, core, -⟩ := h; rfl
theorem pending (h : AgreesOn Q s t) : t.pending = s.pending := by obtain ⟨buf, core, -⟩ := h; rfl
theorem cmdReady (h : AgreesOn Q s t) : cmdReady t = cmdReady s := by obtain ⟨buf, core, -⟩ := h; rfl

theorem withPending (h : AgreesOn Q s t) (acts : List HostAction) :
    AgreesOn Q { s with pending := acts } { t with pending := acts } := by
  obtain ⟨buf, core, h⟩ := h
  exact ⟨buf, core, h⟩

theorem accept (h : AgreesOn Q s t) (c : Command) : AgreesOn Q (accept c s) (accept c t) := by
  obtain ⟨buf, core, h⟩ := h
  exact ⟨buf, core, h⟩

theorem respond (h : AgreesOn Q s t) (err : Bool) (data : Word) : AgreesOn Q (respond err data s) (respond err data t) := by
  obtain ⟨buf, core, h⟩ := h
  exact ⟨buf, core, h⟩

theorem latchError (h : AgreesOn Q s t) (c : ErrorCode) : AgreesOn Q (latchError c s) (latchError c t) := by
  obtain ⟨buf, core, h⟩ := h
  by_cases hc : c.latches = true ∧ s.phase ≠ .error
  · simp only [Machine.latchError, if_pos hc]
    exact ⟨buf, core, h⟩
  · simp only [Machine.latchError, if_neg hc]
    exact ⟨buf, core, h⟩

theorem raiseError (h : AgreesOn Q s t) (c : ErrorCode) : AgreesOn Q (raiseError c s) (raiseError c t) :=
  (h.latchError c).respond _ _

theorem resetBlock (h : AgreesOn Q s t) : AgreesOn Q (resetBlock s) (resetBlock t) := by
  obtain ⟨buf, core, h⟩ := h
  exact agreesOn_refl _

theorem assertReset (h : AgreesOn Q s t) : AgreesOn Q (assertReset s) (assertReset t) := by
  obtain ⟨buf, core, h⟩ := h
  exact agreesOn_refl _

theorem heldStep (h : AgreesOn Q s t) : AgreesOn Q (heldStep s) (heldStep t) := by
  simp only [Machine.heldStep, h.pending]
  split
  · exact (h.withPending _).resetBlock
  · exact h.withPending _
  · exact h.withPending _
  · exact h
  · exact h

theorem clearAccumulator (h : AgreesOn Q s t) : AgreesOn Q (clearAccumulator s) (clearAccumulator t) := by
  obtain ⟨buf, core, h⟩ := h
  exact agreesOn_of_core core

end AgreesOn

/-- R78 with room left in the block. -/
theorem absorbByte_of_room {s : State} (b : Byte) (h : s.nb.val + 1 < 64) :
    absorbByte b s = { s with
      buf := s.buf.set s.nb.val b s.nb.isLt, len := advanceLength s.len 8, nb := s.nb + 1 } := by
  rcases absorbByte_cases b s with ⟨-, heq⟩ | ⟨hfull, -⟩
  · exact heq
  · omega

/-- R78 at the block's last byte. -/
theorem absorbByte_of_full {s : State} (b : Byte) (h : s.nb.val + 1 = 64) :
    absorbByte b s = completeBlock { s with buf := s.buf.set s.nb.val b s.nb.isLt, len := advanceLength s.len 8 } := by
  rcases absorbByte_cases b s with ⟨hroom, -⟩ | ⟨-, heq⟩
  · omega
  · exact heq

/-- Bytes that agree below NB agree through it once the byte at NB is written. -/
theorem set_getElem_congr {buf buf' : Block} {nb : Fin 64} (h : ∀ i : Fin 64, i < nb → buf[i] = buf'[i]) (b : Byte) {i : Nat}
    (hi : i < 64) (hle : i < nb.val + 1) : (buf.set nb.val b nb.isLt)[i] = (buf'.set nb.val b nb.isLt)[i] := by
  rw [Vector.getElem_set, Vector.getElem_set]
  split
  · rfl
  · exact h ⟨i, hi⟩ (Fin.lt_def.mpr (by simp only; omega))

namespace AgreesOn

/-- The byte written at NB joins those that agree; where it fills the block, the whole block agrees, and the compression
overwrites the micro-state. -/
theorem absorbByte (h : AgreesOn Q s t) (b : Byte) : AgreesOn Q (absorbByte b s) (absorbByte b t) := by
  obtain ⟨buf, core, h⟩ := h
  have hbelow : ∀ i : Fin 64, i < s.nb → buf[i] = s.buf[i] := fun i hi => h i (.inl hi)
  by_cases hnb : s.nb.val + 1 = 64
  · have hfull : buf.set s.nb.val b s.nb.isLt = s.buf.set s.nb.val b s.nb.isLt :=
      Vector.ext fun i hi => set_getElem_congr hbelow b hi (by omega)
    rw [absorbByte_of_full b hnb, absorbByte_of_full (s := { s with buf := buf, core := core }) b hnb]
    simp only [hfull]
    exact agreesOn_refl _
  · have hroom : s.nb.val + 1 < 64 := by omega
    rw [absorbByte_of_room b hroom, absorbByte_of_room (s := { s with buf := buf, core := core }) b hroom]
    refine ⟨_, core, fun i hi => ?_⟩
    by_cases hle : i.val < s.nb.val + 1
    · exact set_getElem_congr hbelow b i.isLt hle
    · have hsucc : (s.nb + 1).val = s.nb.val + 1 := Fin.val_add_one_of_lt' (by omega)
      have hQ : Q i := hi.resolve_left fun hlt => hle (hsucc ▸ Fin.lt_def.mp hlt)
      have hne : s.nb.val ≠ i.val := by omega
      have hkeep (blk : Block) : (blk.set s.nb.val b s.nb.isLt)[i] = blk[i] := Vector.getElem_set_ne _ _ hne
      rw [hkeep, hkeep, h i (.inr hQ)]

theorem absorbBytes (h : AgreesOn Q s t) (bs : List Byte) : AgreesOn Q (absorbBytes bs s) (absorbBytes bs t) := by
  induction bs generalizing s t with
  | nil => exact h
  | cons b bs ih => exact ih (h.absorbByte b)

/-- FINAL's padding overwrites the tail of BUF. -/
theorem padBlock (h : AgreesOn Q s t) : padBlock t = { padBlock s with core := t.core } := by
  obtain ⟨buf, core, h⟩ := h
  have hpad : zeroFrom (s.nb.val + 1) (buf.set s.nb.val 0x80 s.nb.isLt) =
      zeroFrom (s.nb.val + 1) (s.buf.set s.nb.val 0x80 s.nb.isLt) := by
    refine Vector.ext fun i hi => ?_
    rw [zeroFrom_get _ _ _ hi, zeroFrom_get _ _ _ hi]
    split
    · rfl
    · exact set_getElem_congr (fun i hi => h i (.inl hi)) _ hi (by omega)
  simp only [Machine.padBlock, hpad]

end AgreesOn

/-- The last block's compression overwrites the micro-state. -/
theorem compressLength_spillPadding_core (s : State) (core : CoreRegs) :
    compressLength (spillPadding { s with core := core }) = compressLength (spillPadding s) := by
  simp only [spillPadding]
  split <;> rfl

namespace AgreesOn

theorem finishMessage (h : AgreesOn Q s t) : finishMessage t = finishMessage s := by
  simp only [Machine.finishMessage, h.padBlock, compressLength_spillPadding_core]

theorem effectOf (h : AgreesOn Q s t) (i : Instr) : AgreesOn Q (effectOf i s) (effectOf i t) := by
  cases i with
  | init => exact h.clearAccumulator
  | absorb cnt data => exact h.absorbBytes _
  | final =>
    simp only [Machine.effectOf, h.finishMessage]
    exact agreesOn_refl _
  | rddig idx | rdstat | rdlen idx => exact h
  | wrlen idx data =>
    obtain ⟨buf, core, h⟩ := h
    exact ⟨buf, core, h⟩

theorem answerOf (h : AgreesOn Q s t) (i : Instr) : answerOf i t = answerOf i s := by
  obtain ⟨buf, core, h⟩ := h
  cases i <;> rfl

theorem performCurrent (h : AgreesOn Q s t) :
    ∃ s' t', performCurrent s = .next s' ∧ performCurrent t = .next t' ∧ AgreesOn Q s' t' := by
  rcases performCurrent_congr h.curHdr h.curData h.phase with ⟨c, hs, ht⟩ | ⟨i, hs, ht⟩
  · exact ⟨_, _, hs, ht, h.raiseError c⟩
  · rw [h.answerOf i] at ht
    exact ⟨_, _, hs, ht, (h.effectOf i).respond _ _⟩

/-- A step does the same in both states: what decides (`step_cases`) is none of what may differ. -/
theorem step (h : AgreesOn Q s t) : ∃ s' t', step s = .next s' ∧ step t = .next t' ∧ AgreesOn Q s' t' := by
  rcases step_cases s with ⟨hr, heq⟩ | ⟨hr, rest, hp, heq⟩ | ⟨hb, hr, heq⟩ | ⟨hr, c, rest, hp, heq⟩ |
    ⟨hr, a, rest, hp, ha, heq⟩ | ⟨hr, hp, heq⟩
  · exact ⟨_, _, heq, step_of_rst (h.rst.trans hr), h.heldStep⟩
  · exact ⟨_, _, heq, step_of_assertRst (h.rst.trans hr) (h.pending.trans hp), (h.withPending rest).assertReset⟩
  · have hstep : Machine.step t = Machine.performCurrent t := by
      obtain ⟨buf, core, -⟩ := h
      exact step_of_busy hb hr
    rw [heq, hstep]
    exact h.performCurrent
  · exact ⟨_, _, heq, step_of_command (h.cmdReady.trans hr) (h.pending.trans hp), (h.withPending rest).accept c⟩
  · have hstep : Machine.step t = .next { t with pending := rest } := by
      rcases ha with rfl | rfl
      · exact step_of_await (h.cmdReady.trans hr) (h.pending.trans hp)
      · exact step_of_releaseRst (h.cmdReady.trans hr) (h.pending.trans hp)
    exact ⟨_, _, heq, hstep, h.withPending rest⟩
  · exact ⟨_, _, heq, step_of_nothing_pending (h.cmdReady.trans hr) (h.pending.trans hp), h⟩

end AgreesOn

end Agree

/-- Settles O53: `AgreesOn.step` with every byte of BUF known to agree. -/
theorem coreMicroStateUnobserved : Obligations.CoreMicroStateUnobserved := by
  unfold Obligations.CoreMicroStateUnobserved
  simp only [← agreesOn_all_iff]
  exact fun s t h => h.step

/-- Settles O54: `AgreesOn.step` with no byte of BUF known to agree from NB up. -/
theorem bufferTailUnobserved : Obligations.BufferTailUnobserved := by
  unfold Obligations.BufferTailUnobserved
  simp only [← agreesOn_none_iff]
  exact fun s t h => h.step

end Sys2Proof.Machine

/-! SUPPORT. Which command writes which element (R28), which code a command reports (R91, R92), and what that makes of PHASE and
ERRCODE (R21, R22, R94, R95). -/

namespace Sys2Proof.Machine

@[simp] theorem effectOf_curHdr (i : Instr) (s : State) : (effectOf i s).curHdr = s.curHdr := by cases i <;> simp [effectOf]

@[simp] theorem effectOf_curData (i : Instr) (s : State) : (effectOf i s).curData = s.curData := by cases i <;> simp [effectOf]

/-- H, BUF and NB are written by INIT, FINAL and ABSORB alone (R28). -/
theorem effectOf_accumulator (i : Instr) (s : State) :
    (i = .init ∨ i = .final ∨ ∃ cnt data, i = .absorb cnt data) ∨
      (effectOf i s).hash = s.hash ∧ (effectOf i s).buf = s.buf ∧ (effectOf i s).nb = s.nb := by
  cases i with
  | init => exact .inl (.inl rfl)
  | final => exact .inl (.inr (.inl rfl))
  | absorb cnt data => exact .inl (.inr (.inr ⟨cnt, data, rfl⟩))
  | rddig | rdstat | rdlen | wrlen => exact .inr ⟨rfl, rfl, rfl⟩

/-- L is written by INIT, ABSORB and WRLEN alone (R28). -/
theorem effectOf_len (i : Instr) (s : State) :
    (i = .init ∨ (∃ cnt data, i = .absorb cnt data) ∨ ∃ idx data, i = .wrlen idx data) ∨ (effectOf i s).len = s.len := by
  cases i with
  | init => exact .inl (.inl rfl)
  | absorb cnt data => exact .inl (.inr (.inl ⟨cnt, data, rfl⟩))
  | wrlen idx data => exact .inl (.inr (.inr ⟨idx, data, rfl⟩))
  | final => exact .inr (finishMessage_len s)
  | rddig | rdstat | rdlen => exact .inr rfl

/-- A success moves PHASE by INIT, to ABSORB, and by FINAL, to DONE (R21). -/
theorem effectOf_phase (i : Instr) (s : State) :
    (i = .init ∧ (effectOf i s).phase = .absorb) ∨ (i = .final ∧ (effectOf i s).phase = .done) ∨
      (effectOf i s).phase = s.phase := by
  cases i with
  | init => exact .inl ⟨rfl, rfl⟩
  | final => exact .inr (.inl ⟨rfl, finishMessage_phase s⟩)
  | absorb cnt data => exact .inr (.inr (absorbBytes_phase _ s))
  | rddig | rdstat | rdlen | wrlen => exact .inr (.inr rfl)

/-- A success writes ERRCODE by INIT alone (R28). -/
theorem effectOf_errCode (i : Instr) (s : State) : i = .init ∨ (effectOf i s).errCode = s.errCode := by
  cases i with
  | init => exact .inl rfl
  | final => exact .inr (finishMessage_errCode s)
  | absorb cnt data => exact .inr (absorbBytes_errCode _ s)
  | rddig | rdstat | rdlen | wrlen => exact .inr rfl

/-- The micro-state is written by FINAL and ABSORB alone, which run compressions (R24). -/
theorem effectOf_core (i : Instr) (s : State) :
    (i = .final ∨ ∃ cnt data, i = .absorb cnt data) ∨ (effectOf i s).core = s.core := by
  cases i with
  | final => exact .inl (.inl rfl)
  | absorb cnt data => exact .inl (.inr ⟨cnt, data, rfl⟩)
  | init | rddig | rdstat | rdlen | wrlen => exact .inr rfl

/-- Settles O46: an erring command is the error entry, which writes PHASE and ERRCODE alone (`raiseError_frame`), and a success
writes what its effect does, element by element. -/
theorem commandsWriteOnlyTheirState : Obligations.CommandsWriteOnlyTheirState := by
  unfold Obligations.CommandsWriteOnlyTheirState
  intro i s t hexec
  rcases exec_cases i s with ⟨c, -, -, heq⟩ | heq
  · obtain rfl := Host.Outcome.next.inj (heq.symm.trans hexec)
    refine ⟨_, raiseError_rsps c s, ?accumulator, fun h => absurd (raiseError_len c s) h, fun _ => .inr (.inr rfl),
      fun _ => .inr rfl, fun _ => raiseError_frame c s, fun h => absurd (raiseError_core c s) h, raiseError_curHdr c s,
      raiseError_curData c s, raiseError_pending c s, raiseError_rst c s⟩
    case accumulator =>
      rintro (h | h | h)
      · exact absurd (raiseError_hash c s) h
      · exact absurd (raiseError_buf c s) h
      · exact absurd (raiseError_nb c s) h
  · obtain rfl := Host.Outcome.next.inj (heq.symm.trans hexec)
    refine ⟨_, respond_effectOf_rsps _ i s, ?accumulator, (effectOf_len i s).resolve_right, ?phase,
      fun h => .inl ((effectOf_errCode i s).resolve_right h), nofun, (effectOf_core i s).resolve_right, effectOf_curHdr i s,
      effectOf_curData i s, effectOf_pending i s, effectOf_rst i s⟩
    case accumulator =>
      intro h
      exact (effectOf_accumulator i s).resolve_right fun ⟨hhash, hbuf, hnb⟩ => by
        rcases h with h | h | h
        · exact h hhash
        · exact h hbuf
        · exact h hnb
    case phase =>
      intro h
      rcases effectOf_phase i s with ⟨hi, -⟩ | ⟨hi, -⟩ | hkeep
      · exact .inl hi
      · exact .inr (.inl hi)
      · exact absurd hkeep h

/-- Settles O47: the two ways in which a command ends (`performCurrent_answers`) are told apart by whether R91's table has a
code for it. -/
theorem oneCodeByPriority : Obligations.OneCodeByPriority := by
  unfold Obligations.OneCodeByPriority
  intro s
  rcases performCurrent_answers s with ⟨c, hc, hcode, heq⟩ | ⟨i, hdec, hcode, heq⟩
  · have hpos := one_le_code hc
    refine ⟨_, _, heq, raiseError_rsps c s, iff_of_true rfl (by omega), fun _ => ?_⟩
    rw [BitVec.toNat_setWidth_of_le (by decide), hcode]
  · rw [hdec, hcode]
    exact ⟨_, _, heq, respond_effectOf_rsps _ i s, iff_of_false nofun (not_not.mpr rfl), nofun⟩

/-- In ERROR every command but INIT and RDSTAT has a code: that of its decoding, or 8 (R94). -/
theorem raisedCode_in_error (d : Decoded) :
    d = .legal .init ∨ d = .legal .rdstat ∨ raisedCode d .error ∈ [1, 2, 3, 8] := by
  rcases d with i | why
  · cases i <;> simp [raisedCode]
  · cases why <;> simp [raisedCode]

/-- A code of four bits keeps its number in the response's data (R56). -/
theorem setWidth_mem_codes {x : BitVec 4} (h : x.toNat ∈ [1, 2, 3, 8]) : x.setWidth 64 ∈ ([1, 2, 3, 8] : List Word) := by
  decide +revert

/-- Settles O50: in ERROR the error entry only responds, with R91's code (`raisedCode_in_error`), and the successes are INIT's,
which is excluded, and RDSTAT's. -/
theorem errorLeftOnlyByInit : Obligations.ErrorLeftOnlyByInit := by
  unfold Obligations.ErrorLeftOnlyByInit
  intro s t hp hinit hperf
  rcases performCurrent_answers s with ⟨c, hc, hcode, heq⟩ | ⟨i, hdec, hcode, heq⟩
  · obtain rfl := Host.Outcome.next.inj (heq.symm.trans hperf)
    refine ⟨_, raiseError_in_error c s hp, .inr ⟨rfl, ?codes⟩⟩
    case codes =>
      rw [hp] at hcode
      refine setWidth_mem_codes (hcode ▸ ?_)
      rcases raisedCode_in_error (decode s.curHdr s.curData) with hi | hi | hmem
      · exact absurd hi hinit
      · rw [hi] at hcode
        exact absurd (hcode ▸ one_le_code hc) (by decide)
      · exact hmem
  · obtain rfl := Host.Outcome.next.inj (heq.symm.trans hperf)
    rw [hdec] at hinit
    rw [hp] at hcode
    rcases raisedCode_in_error (.legal i) with hi | hi | hmem
    · exact absurd hi hinit
    · obtain rfl := Decoded.legal.inj hi
      exact ⟨_, rfl, .inl ⟨hdec, rfl⟩⟩
    · rw [hcode] at hmem
      exact absurd hmem (by decide)

/-- A command in progress that errs goes to ERROR or stays there. -/
theorem raiseError_phase_cases {c : ErrorCode} {s : State}
    (hcode : c.code.toNat = raisedCode (decode s.curHdr s.curData) s.phase) (hc : c ≠ .none) :
    (s.phase ≠ .error ∧ raiseError c s = respond true (c.code.setWidth 64) { s with phase := .error, errCode := c }) ∨
      (s.phase = .error ∧ raiseError c s = respond true (c.code.setWidth 64) s) := by
  by_cases hp : s.phase = .error
  · exact .inr ⟨hp, raiseError_in_error c s hp⟩
  · have hle := raisedCode_le_seven (decode s.curHdr s.curData) hp
    exact .inl ⟨hp, raiseError_outside_error (decide_eq_true ⟨one_le_code hc, by omega⟩) hp⟩

/-- Settles O51. FINAL succeeds in ABSORB only, by R91's table. -/
theorem phaseTransitions : Obligations.PhaseTransitions := by
  unfold Obligations.PhaseTransitions
  intro s t hperf
  rcases performCurrent_answers s with ⟨c, hc, hcode, heq⟩ | ⟨i, hdec, hcode, heq⟩ <;>
    obtain rfl := Host.Outcome.next.inj (heq.symm.trans hperf)
  · rcases raiseError_phase_cases hcode hc with ⟨hp, heq⟩ | ⟨hp, heq⟩ <;> rw [heq]
    · exact .inr (.inr (.inl ⟨hp, rfl, _, rfl⟩))
    · exact .inr (.inr (.inr rfl))
  · rcases effectOf_phase i s with ⟨rfl, hphase⟩ | ⟨rfl, hphase⟩ | hkeep
    · exact .inl ⟨hdec, hphase⟩
    · have hp : s.phase = .absorb := by
        cases hp : s.phase with
        | absorb => rfl
        | done | error => rw [hp] at hcode; cases hcode
      exact .inr (.inl ⟨hdec, hp, hphase⟩)
    · exact .inr (.inr (.inr hkeep))

theorem performAll_cons {c : Command} {cs : List Command} {s t : State} (h : performCurrent (accept c s) = .next t) :
    performAll (c :: cs) s = performAll cs t := by
  simp only [performAll, h]

/-- A run without INIT from ERROR keeps the code (R94). -/
theorem performAll_in_error {cs : List Command} {s t : State} (hp : s.phase = .error)
    (hinit : ∀ c ∈ cs, decode c.hdr c.data ≠ .legal .init) (h : performAll cs s = .next t) :
    t.errCode = s.errCode ∧ ∃ rs, t.rsps = s.rsps ++ rs := by
  induction cs generalizing s with
  | nil =>
    obtain rfl := Host.Outcome.next.inj h
    exact ⟨rfl, [], (List.append_nil _).symm⟩
  | cons c cs ih =>
    obtain ⟨t₁, -, hperf, -⟩ := performCurrent_ports (accept c s)
    obtain ⟨r, ht₁, -⟩ := errorLeftOnlyByInit (accept c s) t₁ hp (hinit c List.mem_cons_self) hperf
    have hp₁ : t₁.phase = .error := by rw [ht₁]; exact hp
    rw [performAll_cons hperf] at h
    obtain ⟨hcode, rs, hrsps⟩ := ih hp₁ (fun c' hc' => hinit c' (List.mem_cons_of_mem c hc')) h
    rw [ht₁] at hcode hrsps
    exact ⟨hcode, r :: rs, by rw [hrsps, accept_rsps, List.append_assoc, List.singleton_append]⟩

/-- A success other than INIT's leaves a state without an error without one. -/
theorem effectOf_error_free {i : Instr} {s : State} (hi : i ≠ .init) (hp : s.phase ≠ .error) (hcode : s.errCode = .none) :
    (effectOf i s).phase ≠ .error ∧ (effectOf i s).errCode = .none := by
  refine ⟨?_, ((effectOf_errCode i s).resolve_left hi).trans hcode⟩
  rcases effectOf_phase i s with ⟨hinit, -⟩ | ⟨-, hdone⟩ | hkeep
  · exact absurd hinit hi
  · exact hdone ▸ nofun
  · exact hkeep ▸ hp

/-- R95 with the run's responses named: up to the first command that errs nothing is recorded, and after it nothing changes
(`performAll_in_error`). -/
theorem performAll_first_error {cs : List Command} {s t : State} (hp : s.phase ≠ .error) (hcode : s.errCode = .none)
    (hinit : ∀ c ∈ cs, decode c.hdr c.data ≠ .legal .init) (h : performAll cs s = .next t) :
    ∃ rs, t.rsps = s.rsps ++ rs ∧ rs.find? (·.err) =
      if t.errCode = .none then none else some { err := true, data := t.errCode.code.setWidth 64 } := by
  induction cs generalizing s with
  | nil =>
    obtain rfl := Host.Outcome.next.inj h
    exact ⟨[], (List.append_nil _).symm, by rw [if_pos hcode]; rfl⟩
  | cons c cs ih =>
    have hrest : ∀ c' ∈ cs, decode c'.hdr c'.data ≠ .legal .init := fun c' hc' => hinit c' (List.mem_cons_of_mem c hc')
    rcases performCurrent_answers (accept c s) with ⟨e, he, hraised, heq⟩ | ⟨i, hdec, -, heq⟩ <;>
      rw [performAll_cons heq] at h
    case inl =>
      obtain ⟨-, hlatch⟩ := (raiseError_phase_cases hraised he).resolve_right fun h => hp h.1
      rw [hlatch] at h
      obtain ⟨hkept, rs, hrsps⟩ := performAll_in_error rfl hrest h
      have hlatched : t.errCode = e := hkept
      exact ⟨_ :: rs, by rw [hrsps, respond_rsps, List.append_assoc, List.singleton_append]; rfl,
        by rw [List.find?_cons_of_pos rfl, hlatched, if_neg he]⟩
    case inr =>
      have hi : i ≠ .init := by
        rintro rfl
        exact hinit c List.mem_cons_self hdec
      obtain ⟨hp', hcode'⟩ := effectOf_error_free (s := accept c s) hi hp hcode
      obtain ⟨rs, hrsps, hfind⟩ := ih (s := respond _ _ (effectOf i (accept c s))) hp' hcode' hrest h
      exact ⟨_ :: rs, by rw [hrsps, respond_effectOf_rsps, accept_rsps, List.append_assoc, List.singleton_append],
        by rw [List.find?_cons_of_neg Bool.false_ne_true, hfind]⟩

theorem errorFree_iff (rs : List Response) : errorFree rs = true ↔ rs.find? (·.err) = none := by
  simp [errorFree]

/-- Settles O52: the run's own responses are those after the ones received before it, and `performAll_first_error` says which of
them is the first error. -/
theorem errcodeRecordsFirstError : Obligations.ErrcodeRecordsFirstError := by
  unfold Obligations.ErrcodeRecordsFirstError
  intro cs s t hp hcode hinit h
  obtain ⟨rs, hrsps, hfind⟩ := performAll_first_error hp hcode hinit h
  rw [hrsps, List.drop_left, errorFree_iff, hfind]
  refine ⟨?_, rfl⟩
  split
  · next hnone => exact iff_of_true rfl hnone
  · next hsome => exact iff_of_false nofun hsome

end Sys2Proof.Machine

/-! SUPPORT. What the ports hold does not matter to a command (R43, R102): its effect is the same whatever BUSY, the host's
queue and the record of responses are. So commands presented one behind another are served as if each were presented alone. -/

namespace Sys2Proof.Machine

/-- `s` with BUSY, the host's queue and the record of responses replaced. -/
def State.withPorts (busy : Bool) (acts : List HostAction) (rs : List Response) (s : State) : State :=
  { s with busy := busy, pending := acts, rsps := rs }

theorem respond_eq_withPorts (err : Bool) (data : Word) (s : State) :
    respond err data s = s.withPorts false s.pending (s.rsps ++ [{ err := err, data := data }]) := rfl

section WithPorts

variable (busy : Bool) (acts : List HostAction) (rs : List Response)

/-- R83's branch where the length field does not fit behind the pad byte. -/
theorem spillPadding_of_spill {s : State} (h : s.nb.val + 1 > 32) : spillPadding s = compressAndClear s := by
  rw [spillPadding, if_pos h]

/-- R83's branch where it does. -/
theorem spillPadding_of_fit {s : State} (h : ¬s.nb.val + 1 > 32) : spillPadding s = s := by
  rw [spillPadding, if_neg h]

theorem absorbByte_withPorts (b : Byte) (s : State) :
    absorbByte b (s.withPorts busy acts rs) = (absorbByte b s).withPorts busy acts rs := by
  by_cases hnb : s.nb.val + 1 = 64
  · rw [absorbByte_of_full b hnb, absorbByte_of_full (s := s.withPorts busy acts rs) b hnb]
    rfl
  · have hroom : s.nb.val + 1 < 64 := by omega
    rw [absorbByte_of_room b hroom, absorbByte_of_room (s := s.withPorts busy acts rs) b hroom]
    rfl

theorem absorbBytes_withPorts (bs : List Byte) (s : State) :
    absorbBytes bs (s.withPorts busy acts rs) = (absorbBytes bs s).withPorts busy acts rs := by
  induction bs generalizing s with
  | nil => rfl
  | cons b bs ih => rw [absorbBytes, absorbByte_withPorts, ih, absorbBytes]

theorem spillPadding_withPorts (s : State) :
    spillPadding (s.withPorts busy acts rs) = (spillPadding s).withPorts busy acts rs := by
  by_cases hnb : s.nb.val + 1 > 32
  · rw [spillPadding_of_spill hnb, spillPadding_of_spill (s := s.withPorts busy acts rs) hnb]
    rfl
  · rw [spillPadding_of_fit hnb, spillPadding_of_fit (s := s.withPorts busy acts rs) hnb]

theorem finishMessage_withPorts (s : State) :
    finishMessage (s.withPorts busy acts rs) = (finishMessage s).withPorts busy acts rs := by
  have hpad : padBlock (s.withPorts busy acts rs) = (padBlock s).withPorts busy acts rs := rfl
  rw [finishMessage, hpad, spillPadding_withPorts]
  rfl

theorem effectOf_withPorts (i : Instr) (s : State) :
    effectOf i (s.withPorts busy acts rs) = (effectOf i s).withPorts busy acts rs := by
  cases i with
  | absorb cnt data => exact absorbBytes_withPorts busy acts rs _ s
  | final => exact finishMessage_withPorts busy acts rs s
  | init | rddig | rdstat | rdlen | wrlen => rfl

end WithPorts

theorem latchError_withPending (c : ErrorCode) (acts : List HostAction) (s : State) :
    latchError c { s with pending := acts } = { latchError c s with pending := acts } := by
  by_cases hc : c.latches = true ∧ s.phase ≠ .error
  · simp only [latchError, if_pos hc]
  · simp only [latchError, if_neg hc]

/-- What the host does next has no effect on the command in progress (R102). -/
theorem performCurrent_withPending {s t : State} (acts : List HostAction) (h : performCurrent s = .next t) :
    performCurrent { s with pending := acts } = .next { t with pending := acts } := by
  rcases performCurrent_congr (s := s) (t := { s with pending := acts }) rfl rfl rfl with ⟨c, hs, ht⟩ | ⟨i, hs, ht⟩ <;>
    obtain rfl := Host.Outcome.next.inj (hs.symm.trans h)
  · rw [ht, raiseError, latchError_withPending]
    rfl
  · have heffect : effectOf i { s with pending := acts } = (effectOf i s).withPorts s.busy acts s.rsps :=
      effectOf_withPorts s.busy acts s.rsps i s
    have hanswer : answerOf i { s with pending := acts } = answerOf i s := by cases i <;> rfl
    simp only [ht, heffect, hanswer, respond, State.withPorts, effectOf_rsps]

theorem run_succ {s t : State} (k : Nat) (h : step s = .next t) :
    Host.Core.run Sys2Proof.core (k + 1) s = Host.Core.run Sys2Proof.core k t := by
  have hcore : Sys2Proof.core.step s = .next t := h
  simp only [Host.Core.run, hcore]

/-- A ready block takes two steps for the command presented: its acceptance and its performance. -/
theorem run_two_of_command {s t : State} {c : Command} {rest : List HostAction} (k : Nat) (hready : cmdReady s = true)
    (hp : s.pending = .command c :: rest) (hnext : ∀ acts, rest ≠ .assertRst :: acts)
    (hperf : performCurrent (accept c { s with pending := rest }) = .next t) :
    Host.Core.run Sys2Proof.core (k + 2) s = Host.Core.run Sys2Proof.core k t := by
  have hrst := ((cmdReady_iff s).mp hready).2
  have hreset : noResetNext (accept c { s with pending := rest }) = true := by
    simp only [noResetNext, accept_rst, accept_pending, hrst, Bool.not_false, Bool.true_and]
  rw [run_succ (k + 1) (step_of_command hready hp), run_succ k ((step_of_busy rfl hreset).trans hperf)]

/-- Settles O9, by induction on the commands: each takes two steps, and performing it is the same whatever is presented behind
it (`performCurrent_withPending`). -/
theorem presentedCommandsAreServedInOrder : Obligations.PresentedCommandsAreServedInOrder := by
  unfold Obligations.PresentedCommandsAreServedInOrder
  intro cs
  induction cs with
  | nil =>
    intro s hready hp
    have hidle : { s with pending := [] } = s := congrArg (fun acts => { s with pending := acts }) hp.symm
    exact ⟨s, rfl, congrArg Host.Outcome.next hidle, hready, hp, rfl⟩
  | cons c cs ih =>
    intro s hready hp
    obtain ⟨t₁, r, hperf, hbusy, hrst, hpending, hrsps⟩ := performCurrent_ports (accept c { s with pending := cs.map .command })
    have hready₁ : cmdReady t₁ = true := (cmdReady_iff t₁).mpr ⟨hbusy, hrst.trans ((cmdReady_iff s).mp hready).2⟩
    obtain ⟨t, hrun, hall, htready, htpending, hcount⟩ := ih t₁ hready₁ hpending
    refine ⟨t, ?_, ?_, htready, htpending, ?_⟩
    · have hnext : ∀ acts, cs.map HostAction.command ≠ .assertRst :: acts := by
        cases cs <;> simp
      have htwo : 2 * (c :: cs).length = 2 * cs.length + 2 := by rw [List.length_cons, Nat.mul_succ]
      rw [htwo, run_two_of_command _ hready hp hnext hperf, hrun]
    · have hplace : accept c { s with pending := [] } =
          { accept c { s with pending := cs.map .command } with pending := [] } := rfl
      have hperf' := performCurrent_withPending [] hperf
      rw [← hplace] at hperf'
      rw [performAll_cons hperf', hall]
    · simp only [hcount, hrsps, accept_rsps, List.length_append, List.length_cons, List.length_nil]
      omega

end Sys2Proof.Machine

/-! SUPPORT. The byte and word views of L and of the digest (R17, R35), and the fields of STATUS (R26). -/

namespace Sys2Proof.Machine

/-- The four words of L are its adjacent parts, down to bit 0. -/
theorem lenWords_append (l : Length) : lenWord l 0 ++ lenWord l 1 ++ lenWord l 2 ++ lenWord l 3 = l := by
  have hjoin (start len : Nat) : l.extractLsb' (start + 64) len ++ l.extractLsb' start 64 = l.extractLsb' start (len + 64) :=
    BitVec.extractLsb'_append_extractLsb'_eq_extractLsb' rfl
  calc lenWord l 0 ++ lenWord l 1 ++ lenWord l 2 ++ lenWord l 3
      = l.extractLsb' 128 128 ++ lenWord l 2 ++ lenWord l 3 := congrArg (· ++ lenWord l 2 ++ lenWord l 3) (hjoin 128 64)
    _ = l.extractLsb' 64 192 ++ lenWord l 3 := congrArg (· ++ lenWord l 3) (hjoin 64 128)
    _ = l.extractLsb' 0 256 := hjoin 0 192
    _ = l := BitVec.extractLsb'_eq_self

/-- Bits 63-8k to 56-8k of bits 255-64w to 192-64w. -/
theorem lenByte_eq_byteOf_lenWord (l : Length) (w : Fin 4) (k : Fin 8) :
    lenByte l (8 * w.val + k.val) = byteOf (lenWord l w.val) k.val := by
  have hbit : 248 - 8 * (8 * w.val + k.val) = 192 - 64 * w.val + (56 - 8 * k.val) := by omega
  rw [lenByte, byteOf, lenWord, hbit]
  ext i hi
  simp only [BitVec.getElem_extractLsb', BitVec.getLsbD_extractLsb', Nat.add_assoc]
  rw [decide_eq_true (by omega), Bool.true_and]

/-- Settles O23: the words are the counter's adjacent parts, and a byte's bits in the counter are its bits in its word. -/
theorem lengthViewsCoverCounter : Obligations.LengthViewsCoverCounter := by
  unfold Obligations.LengthViewsCoverCounter
  exact ⟨lenWords_append, lenByte_eq_byteOf_lenWord⟩

theorem bufBits_toNat (nb : Fin 64) : (bufBits nb).toNat = 8 * nb.val := by
  rw [bufBits, BitVec.toNat_ofNat]
  omega

/-- STATUS as a number: each field at its place, all of them below bit 17 (R26). -/
theorem statusWord_toNat (s : State) :
    (statusWord s).toNat = ((8 * s.nb.val) * 16 + s.errCode.code.toNat) * 16 + s.phase.bits.toNat := by
  simp only [statusWord, toNat_concat, bufBits_toNat, BitVec.ofNat_eq_ofNat, BitVec.toNat_ofNat]
  omega

/-- Settles O25: each field is a range of digits of STATUS as a number. -/
theorem statusRegisterFields : Obligations.StatusRegisterFields := by
  unfold Obligations.StatusRegisterFields
  intro s
  rw [statusWord_toNat]
  omega

/-- In a list built from pieces of one length, an element's place is that of its piece and its place there. -/
theorem getElem?_flatMap_of_length {α β : Type} {n j : Nat} (f : α → List β) (l : List α) (hlen : ∀ x, (f x).length = n)
    (hj : j < n) (i : Nat) : (l.flatMap f)[n * i + j]? = l[i]?.bind fun x => (f x)[j]? := by
  induction l generalizing i with
  | nil => rfl
  | cons x l ih =>
    rw [List.flatMap_cons]
    cases i with
    | zero => rw [Nat.mul_zero, Nat.zero_add, List.getElem?_append_left (by rw [hlen]; exact hj)]; rfl
    | succ i =>
      rw [List.getElem?_append_right (by rw [hlen, Nat.mul_succ]; omega), hlen, Nat.mul_succ,
        show n * i + n + j - n = n * i + j by omega, ih, List.getElem?_cons_succ]

/-- Settles O22: the digest is eight pieces of eight bytes, and byte k of piece i is byte k of word i. -/
theorem digestBytesBigEndian : Obligations.DigestBytesBigEndian := by
  unfold Obligations.DigestBytesBigEndian
  intro h
  have hpiece (w : Word) : ((List.range 8).map (byteOf w)).length = 8 := by rw [List.length_map, List.length_range]
  refine ⟨?_, fun i k => ?_⟩
  · simp [digestBytes, List.length_flatMap]
  · rw [digestBytes, getElem?_flatMap_of_length _ _ hpiece k.isLt]
    simp

end Sys2Proof.Machine

/-! SUPPORT. The core's registers compute the composed function of R76. -/

namespace Sys2Proof.Machine

@[simp] theorem coreFeedForward_getElem (h : Words) (c : CoreRegs) (i : Fin 8) :
    (coreFeedForward h c)[i] = h[i] ^^^ c.cs[i] ^^^ c.cb[i] :=
  Vector.getElem_ofFn i.isLt

/-- Settles O34: the feed-forward reads CB, which the rounds leave as LOAD wrote it (`coreRounds_cb`). -/
theorem feedForwardUsesLoadedBlock : Obligations.FeedForwardUsesLoadedBlock := by
  unfold Obligations.FeedForwardUsesLoadedBlock
  intro n blk h i
  rw [coreFeedForward_getElem, coreRounds_cb, coreLoad_cb, blockWords_getElem]

/-- Rounds on the registers are R76's rounds on CK and CS, with the round numbers from CR on. -/
theorem iterate_coreRound_cs {n : Nat} {c : CoreRegs} (h : c.cr.toNat + n < 16) :
    (coreRound^[n] c).cs = cipherRounds c.ck c.cs (List.range' c.cr.toNat n) := by
  induction n generalizing c with
  | zero => rfl
  | succ n ih =>
    have hnext : (coreRound c).cr.toNat = c.cr.toNat + 1 := iterate_coreRound_cr (n := 1) (by omega)
    rw [Function.iterate_succ_apply, ih (by omega), hnext]
    rfl

/-- A compression on the core's registers is R76's function: word by word, the same feed-forward of the same rounds. -/
theorem coreFeedForward_eq_compress (blk : Block) (h : Words) :
    coreFeedForward h (coreRounds 10 (coreLoad blk h)) = compress blk h := by
  have hrounds : (coreRounds 10 (coreLoad blk h)).cs =
      cipherRounds h (Vector.ofFn fun i => blockWord blk i ^^^ h[i]) (List.range 10) := by
    rw [coreRounds_coreLoad _ _ le_rfl, iterate_coreRound_cs (by rw [coreLoad_cr_toNat]; omega), List.range_eq_range']
    rfl
  refine Vector.ext fun i hi => ?_
  have hword := coreFeedForward_getElem h (coreRounds 10 (coreLoad blk h)) ⟨i, hi⟩
  rw [coreRounds_cb, coreLoad_cb, blockWords_getElem, hrounds] at hword
  rw [compress, Vector.getElem_ofFn]
  exact hword

/-- Settles O35: the hash is `coreFeedForward_eq_compress`, and a run is a record update of H and the micro-state. -/
theorem coreComputesCompress : Obligations.CoreComputesCompress := by
  unfold Obligations.CoreComputesCompress
  exact fun s => ⟨_, rfl, coreFeedForward_eq_compress s.buf s.hash, rfl⟩

end Sys2Proof.Machine

/-! SUPPORT. Byte sequences as blocks (R29 item 4, R84): the complete blocks of a sequence and what is left over. -/

namespace Sys2Proof.Machine

/-- What a byte sequence holds behind its last complete block. -/
def leftover (bs : List Byte) : List Byte := bs.drop (64 * (bs.length / 64))

theorem leftover_length (bs : List Byte) : (leftover bs).length = bs.length % 64 := by
  rw [leftover, List.length_drop]
  omega

theorem blocksOf_length (bs : List Byte) : (blocksOf bs).length = bs.length / 64 := by
  rw [blocksOf, List.length_map, List.length_range]

theorem blocksOf_of_short {bs : List Byte} (h : bs.length < 64) : blocksOf bs = [] := by
  rw [blocksOf, Nat.div_eq_of_lt h]
  rfl

theorem leftover_of_short {bs : List Byte} (h : bs.length < 64) : leftover bs = bs := by
  rw [leftover, Nat.div_eq_of_lt h]
  rfl

theorem blocksOf_of_single {bs : List Byte} (h : bs.length / 64 = 1) : blocksOf bs = [blockAt bs 0] := by
  rw [blocksOf, h]
  rfl

theorem blockAt_getElem (bs : List Byte) (k : Nat) {i : Nat} (hi : i < 64) : (blockAt bs k)[i] = bs.getD (64 * k + i) 0 := by
  rw [blockAt, Vector.getElem_ofFn]

/-- A complete block of a sequence is untouched by bytes behind it. -/
theorem blockAt_append_left {as bs : List Byte} {k : Nat} (h : k < as.length / 64) : blockAt (as ++ bs) k = blockAt as k := by
  refine Vector.ext fun i hi => ?_
  rw [blockAt_getElem _ _ hi, blockAt_getElem _ _ hi, List.getD_append _ _ _ _ (by omega)]

/-- What `as` leaves over, with more behind it, is all that lies behind its complete blocks. -/
theorem leftover_append_eq_drop (as bs : List Byte) : leftover as ++ bs = (as ++ bs).drop (64 * (as.length / 64)) := by
  rw [List.drop_append_of_le_length (by omega), leftover]

/-- Blocks counted in two goes. -/
theorem append_length_div (as bs : List Byte) :
    (as ++ bs).length / 64 = as.length / 64 + (leftover as ++ bs).length / 64 := by
  rw [List.length_append, List.length_append, leftover_length]
  omega

/-- The blocks behind the complete ones of `as` begin with what `as` leaves over. -/
theorem blockAt_append_right (as bs : List Byte) (k : Nat) :
    blockAt (as ++ bs) (as.length / 64 + k) = blockAt (leftover as ++ bs) k := by
  refine Vector.ext fun i hi => ?_
  rw [blockAt_getElem _ _ hi, blockAt_getElem _ _ hi, leftover_append_eq_drop]
  simp only [List.getD_eq_getElem?_getD, List.getElem?_drop]
  congr 2
  omega

/-- Blocks taken from a sequence in two goes. -/
theorem blocksOf_append (as bs : List Byte) : blocksOf (as ++ bs) = blocksOf as ++ blocksOf (leftover as ++ bs) := by
  have hleft : (List.range (as.length / 64)).map (blockAt (as ++ bs)) = blocksOf as :=
    List.map_congr_left fun k hk => blockAt_append_left (List.mem_range.mp hk)
  have hright : (List.range ((leftover as ++ bs).length / 64)).map (blockAt (as ++ bs) ∘ (as.length / 64 + ·)) =
      blocksOf (leftover as ++ bs) :=
    List.map_congr_left fun k _ => blockAt_append_right as bs k
  rw [← hleft, ← hright, blocksOf, append_length_div, List.range_add, List.map_append, List.map_map]

theorem leftover_append (as bs : List Byte) : leftover (as ++ bs) = leftover (leftover as ++ bs) := by
  have hdef (cs : List Byte) : leftover cs = cs.drop (64 * (cs.length / 64)) := rfl
  rw [hdef (as ++ bs), hdef (leftover as ++ bs), append_length_div as bs, Nat.mul_add, ← List.drop_drop,
    ← leftover_append_eq_drop]

/-- Complete blocks leave nothing over. -/
theorem leftover_take (bs : List Byte) : leftover (bs.take (64 * (bs.length / 64))) = [] := by
  refine List.eq_nil_of_length_eq_zero ?_
  rw [leftover_length, List.length_take]
  omega

/-- The complete blocks are those of the sequence without what is left over. -/
theorem blocksOf_take (bs : List Byte) : blocksOf (bs.take (64 * (bs.length / 64))) = blocksOf bs := by
  have hshort : (leftover bs).length < 64 := by rw [leftover_length]; omega
  have hsplit := blocksOf_append (bs.take (64 * (bs.length / 64))) (leftover bs)
  rw [leftover_take, List.nil_append, blocksOf_of_short hshort, List.append_nil, leftover, List.take_append_drop] at hsplit
  exact hsplit.symm

@[simp] theorem compressBlocks_nil (h : Words) : compressBlocks [] h = h := rfl

@[simp] theorem compressBlocks_singleton (blk : Block) (h : Words) : compressBlocks [blk] h = compress blk h := rfl

theorem compressBlocks_append (as bs : List Block) (h : Words) :
    compressBlocks (as ++ bs) h = compressBlocks bs (compressBlocks as h) :=
  List.foldl_append

end Sys2Proof.Machine

/-! SUPPORT. ABSORB (R78 to R81): what absorbing bytes leaves in each element. -/

namespace Sys2Proof.Machine

theorem buffered_length (s : State) : s.buffered.length = s.nb.val := by
  rw [State.buffered, List.length_take, Vector.length_toList]
  omega

theorem buffered_getElem? (s : State) {i : Nat} (h : i < s.nb.val) : s.buffered[i]? = some (s.buf[i]'(by omega)) := by
  rw [State.buffered, List.getElem?_take_of_lt h]
  simp

@[simp] theorem respond_buffered (err : Bool) (data : Word) (s : State) : (respond err data s).buffered = s.buffered := rfl

/-- The bytes buffered once one more stands at NB. -/
theorem take_set_toList (blk : Block) (nb : Fin 64) (b : Byte) :
    (blk.set nb.val b nb.isLt).toList.take (nb.val + 1) = blk.toList.take nb.val ++ [b] := by
  rw [Vector.toList_set, List.take_succ_eq_append_getElem (by simp), List.take_set_of_le le_rfl, List.getElem_set_self]

/-- A block is the first of its own bytes. -/
theorem blockAt_toList (blk : Block) : blockAt blk.toList 0 = blk := by
  refine Vector.ext fun i hi => ?_
  rw [blockAt_getElem _ _ hi, Nat.mul_zero, Nat.zero_add, List.getD_eq_getElem _ _ (by simpa using hi), Vector.getElem_toList]

/-- A compression, as the commands run it, is R76's function. -/
theorem runCore_hash_eq_compress (s : State) : (runCore s).hash = compress s.buf s.hash := by
  rw [runCore_hash, coreFeedForward_eq_compress]

/-- One byte, over the sequence of those buffered and it: the sequence's complete blocks, of which there is at most one, are
compressed, and what it leaves over is buffered (R78, R79). -/
theorem absorbByte_blocks (b : Byte) (s : State) :
    (absorbByte b s).hash = compressBlocks (blocksOf (s.buffered ++ [b])) s.hash ∧
      (absorbByte b s).buffered = leftover (s.buffered ++ [b]) := by
  have hlen : (s.buffered ++ [b]).length = s.nb.val + 1 := by
    rw [List.length_append, buffered_length, List.length_singleton]
  rcases absorbByte_cases b s with ⟨hroom, heq⟩ | ⟨hfull, heq⟩
  · rw [heq, blocksOf_of_short (by omega), leftover_of_short (by omega)]
    have hsucc : (s.nb + 1).val = s.nb.val + 1 := Fin.val_add_one_of_lt' hroom
    refine ⟨rfl, ?_⟩
    simp only [State.buffered, hsucc, take_set_toList]
  · rw [heq, completeBlock_eq, blocksOf_of_single (by omega), compressBlocks_singleton]
    refine ⟨?_, ?_⟩
    · have hblock : blockAt (s.buffered ++ [b]) 0 = s.buf.set s.nb.val b s.nb.isLt := by
        rw [State.buffered, ← take_set_toList, hfull, List.take_of_length_le (by simp), blockAt_toList]
      rw [hblock]
      exact runCore_hash_eq_compress _
    · rw [leftover, hlen, hfull, List.drop_eq_nil_of_le (by omega)]
      rfl

end Sys2Proof.Machine

/-! SUPPORT. The command ABSORB (R81): its bytes absorbed one after another, element by element. -/

namespace Sys2Proof.Machine

/-- Absorbing bytes is taking the complete blocks of the sequence that they and the buffered ones make (R29 item 4). -/
theorem absorbBytes_blocks (bs : List Byte) (s : State) :
    (absorbBytes bs s).hash = compressBlocks (blocksOf (s.buffered ++ bs)) s.hash ∧
      (absorbBytes bs s).buffered = leftover (s.buffered ++ bs) := by
  induction bs generalizing s with
  | nil =>
    have hshort : s.buffered.length < 64 := by rw [buffered_length]; omega
    rw [List.append_nil, blocksOf_of_short hshort, leftover_of_short hshort]
    exact ⟨rfl, rfl⟩
  | cons b bs ih =>
    obtain ⟨hhash, hbuf⟩ := absorbByte_blocks b s
    obtain ⟨ihhash, ihbuf⟩ := ih (absorbByte b s)
    have hsplit : s.buffered ++ b :: bs = s.buffered ++ [b] ++ bs := by rw [List.append_assoc, List.singleton_append]
    rw [hsplit, blocksOf_append, leftover_append (s.buffered ++ [b]), compressBlocks_append, ← hhash, ← hbuf]
    exact ⟨ihhash, ihbuf⟩

theorem absorbBytes_nb (bs : List Byte) (s : State) : (absorbBytes bs s).nb.val = (s.nb.val + bs.length) % 64 := by
  rw [← buffered_length, (absorbBytes_blocks bs s).2, leftover_length, List.length_append, buffered_length]

theorem absorbBytes_len (bs : List Byte) (s : State) :
    (absorbBytes bs s).len = s.len + BitVec.ofNat 256 (8 * bs.length) := by
  induction bs generalizing s with
  | nil => exact (BitVec.add_zero s.len).symm
  | cons b bs ih =>
    have hbyte : (8 : Word).setWidth 256 = BitVec.ofNat 256 8 := rfl
    rw [absorbBytes, ih, absorbByte_len, advanceLength, hbyte, BitVec.add_assoc, ← BitVec.ofNat_add, List.length_cons,
      Nat.mul_succ, Nat.add_comm]

/-- The bytes of BUF from the new NB up: as they were, or zero if a block was completed (R79). -/
theorem absorbBytes_tail (bs : List Byte) (s : State) {i : Nat} (hi : i < 64) (hnb : (absorbBytes bs s).nb.val ≤ i) :
    (absorbBytes bs s).buf[i] = if s.nb.val + bs.length < 64 then s.buf[i] else 0 := by
  induction bs generalizing s with
  | nil => rw [if_pos (by simp), absorbBytes]
  | cons b bs ih =>
    rw [absorbBytes, ih _ hnb, List.length_cons]
    rcases absorbByte_cases b s with ⟨hroom, heq⟩ | ⟨hfull, heq⟩
    · have hsucc : (s.nb + 1).val = s.nb.val + 1 := Fin.val_add_one_of_lt' hroom
      rw [heq, hsucc, Nat.add_right_comm, Nat.add_assoc]
      split
      · next hlt =>
        rw [absorbBytes_nb, List.length_cons, Nat.mod_eq_of_lt hlt] at hnb
        exact Vector.getElem_set_ne s.nb.isLt hi (by omega)
      · rfl
    · have hnb0 : (absorbByte b s).nb.val = 0 := by rw [heq, completeBlock_eq]; rfl
      have hzero : (absorbByte b s).buf[i] = 0 := by
        rw [heq, completeBlock_eq]
        exact Vector.getElem_replicate hi
      rw [hzero, ite_self, if_neg (by omega)]

/-- With room left in the block no compression runs. -/
theorem absorbBytes_core_of_room {bs : List Byte} {s : State} (h : s.nb.val + bs.length < 64) :
    (absorbBytes bs s).core = s.core := by
  induction bs generalizing s with
  | nil => rfl
  | cons b bs ih =>
    rw [List.length_cons] at h
    have hroom := absorbByte_of_room b (s := s) (by omega)
    have hsucc : (s.nb + 1).val = s.nb.val + 1 := Fin.val_add_one_of_lt' (by omega)
    rw [absorbBytes, ih (by rw [hroom, hsucc]; omega), hroom]

/-- The bytes of BUF below the new NB: those absorbed or buffered last. -/
theorem buf_getElem_of_buffered {s : State} {bs : List Byte} (h : s.buffered = bs) {i : Nat} (hi : i < s.nb.val) :
    s.buf[i]'(by omega) = bs.getD i 0 := by
  rw [← h, List.getD_eq_getElem?_getD, buffered_getElem? s hi, Option.getD_some]

/-- ABSORB's frame: what a response on absorbed bytes leaves alone (R78, R56). -/
theorem respond_absorbBytes_frame (bs : List Byte) (s : State) :
    respond false 0 (absorbBytes bs s) =
      { s with
        hash := (absorbBytes bs s).hash, buf := (absorbBytes bs s).buf, nb := (absorbBytes bs s).nb
        len := (absorbBytes bs s).len, core := (absorbBytes bs s).core
        busy := false, rsps := s.rsps ++ [{ err := false, data := 0 }] } :=
  State.ext rfl rfl rfl rfl (absorbBytes_phase bs s) (absorbBytes_errCode bs s) rfl (absorbBytes_rst bs s) rfl
    (absorbBytes_curHdr bs s) (absorbBytes_curData bs s) (absorbBytes_pending bs s) (by rw [respond_rsps, absorbBytes_rsps])

theorem chunkBytes_length (cnt : BitVec 4) (data : Word) : (chunkBytes cnt data).length = cnt.toNat := by
  rw [chunkBytes, List.length_map, List.length_range]

theorem chunkBytes_getD {cnt : BitVec 4} (data : Word) {i : Nat} (h : i < cnt.toNat) :
    (chunkBytes cnt data).getD i 0 = byteOf data i := by
  rw [chunkBytes, List.getD_eq_getElem _ _ (by simpa using h), List.getElem_map, List.getElem_range]

/-- ABSORB in ABSORB absorbs its bytes (R81). -/
theorem exec_absorb {cnt : BitVec 4} {s : State} (data : Word) (hcnt : cnt.toNat ≤ 8) (hp : s.phase = .absorb) :
    exec (.absorb cnt data) s = .next (respond false 0 (absorbBytes (chunkBytes cnt data) s)) :=
  exec_succeeds (decide_eq_true hcnt) hp rfl

/-- What stands at a place of the buffered bytes followed by ABSORB's. -/
theorem buffered_append_chunk_getD {cnt : BitVec 4} (s : State) (data : Word) {i : Nat} (hi : i < s.nb.val + cnt.toNat) :
    (s.buffered ++ chunkBytes cnt data).getD i 0 =
      if h : i < s.nb.val then s.buf[i]'(by omega) else byteOf data (i - s.nb.val) := by
  split
  · next hlt =>
    rw [List.getD_append _ _ _ _ (by rw [buffered_length]; exact hlt), List.getD_eq_getElem?_getD, buffered_getElem? s hlt,
      Option.getD_some]
  · next hge =>
    rw [List.getD_append_right _ _ _ _ (by rw [buffered_length]; omega), buffered_length, chunkBytes_getD data (by omega)]

/-- Settles O37: no block is completed, so H and the micro-state stay, and BUF holds the bytes behind those it held. -/
theorem absorbWithinBlock : Obligations.AbsorbWithinBlock := by
  unfold Obligations.AbsorbWithinBlock
  intro cnt data s hcnt hp hroom
  have hroom' : s.nb.val + (chunkBytes cnt data).length < 64 := by rwa [chunkBytes_length]
  have hshort : (s.buffered ++ chunkBytes cnt data).length < 64 := by rwa [List.length_append, buffered_length]
  obtain ⟨hhash, hbuf⟩ := absorbBytes_blocks (chunkBytes cnt data) s
  rw [blocksOf_of_short hshort, compressBlocks_nil] at hhash
  rw [leftover_of_short hshort] at hbuf
  have hnb := absorbBytes_nb (chunkBytes cnt data) s
  rw [chunkBytes_length, Nat.mod_eq_of_lt hroom] at hnb
  have hcore := absorbBytes_core_of_room hroom'
  refine ⟨_, exec_absorb data hcnt hp, hnb, ?len, fun i => ?buf, ?frame⟩
  case len => rw [respond_len, absorbBytes_len, chunkBytes_length]
  case buf =>
    rw [respond_buf]
    by_cases hi : i.val < s.nb.val + cnt.toNat
    · have hbyte := buf_getElem_of_buffered hbuf (i := i.val) (by omega)
      rw [buffered_append_chunk_getD s data hi] at hbyte
      refine hbyte.trans ?_
      split
      · rw [if_neg (by omega)]; rfl
      · rw [if_pos (by omega)]
    · have htail := absorbBytes_tail (chunkBytes cnt data) s i.isLt (by omega)
      rw [if_pos hroom'] at htail
      rw [if_neg (by omega)]
      exact htail
  case frame => exact (respond_absorbBytes_frame _ s).trans (by rw [hhash, hcore]; rfl)

/-- Settles O38: the bytes held and absorbed are one block and less than another; the block is compressed, and BUF holds what
is behind it. -/
theorem absorbAcrossBlock : Obligations.AbsorbAcrossBlock := by
  unfold Obligations.AbsorbAcrossBlock
  intro cnt data s hcnt hp hfull
  have hlen : (s.buffered ++ chunkBytes cnt data).length = s.nb.val + cnt.toNat := by
    rw [List.length_append, buffered_length, chunkBytes_length]
  obtain ⟨hhash, hbuf⟩ := absorbBytes_blocks (chunkBytes cnt data) s
  rw [blocksOf_of_single (by omega), compressBlocks_singleton] at hhash
  have hnb := absorbBytes_nb (chunkBytes cnt data) s
  rw [chunkBytes_length] at hnb
  refine ⟨_, exec_absorb data hcnt hp, ?hash, ?nb, ?len, fun i => ?buf, ?frame⟩
  case hash =>
    refine hhash.trans (congrArg (compress · s.hash) (Vector.ext fun i hi => ?_))
    rw [blockAt_getElem _ _ hi, Nat.mul_zero, Nat.zero_add, buffered_append_chunk_getD s data (by omega), Vector.getElem_ofFn]
    split
    · rw [if_neg (by simp only; omega)]; rfl
    · rw [if_pos (by simp only; omega)]
  case nb => rw [respond_nb, hnb]; omega
  case len => rw [respond_len, absorbBytes_len, chunkBytes_length]
  case buf =>
    rw [respond_buf, respond_nb]
    split
    · next hi =>
      have hbyte := buf_getElem_of_buffered hbuf hi
      refine hbyte.trans ?_
      have hplace : 64 * ((s.buffered ++ chunkBytes cnt data).length / 64) + i.val = i.val + 64 := by omega
      rw [leftover, List.getD_eq_getElem?_getD, List.getElem?_drop, ← List.getD_eq_getElem?_getD, hplace,
        buffered_append_chunk_getD s data (by omega), dif_neg (by omega)]
    · next hi =>
      have htail := absorbBytes_tail (chunkBytes cnt data) s i.isLt (not_lt.mp hi)
      rw [chunkBytes_length, if_neg (by omega)] at htail
      exact htail
  case frame => exact respond_absorbBytes_frame _ s

/-- Settles O39: in both phases R91's table has a code for ABSORB, whatever its count. -/
theorem absorbRefusedOutsideAbsorb : Obligations.AbsorbRefusedOutsideAbsorb := by
  unfold Obligations.AbsorbRefusedOutsideAbsorb
  intro cnt data s hcnt
  have hwf : (Instr.absorb cnt data).wf = true := decide_eq_true hcnt
  exact ⟨fun h => exec_latches (c := .updateAfterFinal) hwf h nofun rfl rfl, fun h => exec_rejected hwf h rfl⟩

theorem chunkBytes_congr {cnt : BitVec 4} {data data' : Word} (h : ∀ i, i < cnt.toNat → byteOf data i = byteOf data' i) :
    chunkBytes cnt data = chunkBytes cnt data' :=
  List.map_congr_left fun i hi => h i (List.mem_range.mp hi)

/-- Settles O40: ABSORB takes nothing of its data operand but the bytes up to its count. -/
theorem absorbIgnoresBytesBeyondCount : Obligations.AbsorbIgnoresBytesBeyondCount := by
  unfold Obligations.AbsorbIgnoresBytesBeyondCount
  intro cnt data data' s h
  rw [exec, exec, execAbsorb, execAbsorb, chunkBytes_congr h]

end Sys2Proof.Machine

/-! SUPPORT. The command FINAL (R83): the padded tail, one or two blocks, as FINAL writes them into BUF. -/

namespace Sys2Proof.Machine

theorem lenBytes_getD (l : Length) {i : Nat} (h : i < 32) : (lenBytes l).getD i 0 = lenByte l i := by
  rw [lenBytes, List.getD_eq_getElem _ _ (by simpa using h), List.getElem_map, List.getElem_range]

theorem lenBytes_length (l : Length) : (lenBytes l).length = 32 := by
  rw [lenBytes, List.length_map, List.length_range]

theorem getD_replicate_zero (n i : Nat) : (List.replicate n (0 : Byte)).getD i 0 = 0 := by
  rcases lt_or_ge i n with hlt | hge
  · exact List.getD_replicate _ hlt
  · exact List.getD_eq_default _ _ (by rwa [List.length_replicate])

/-- The padding block is the bytes buffered, the pad byte, and zeros up to its end. -/
theorem padBlock_buf_getElem (s : State) (n : Nat) {i : Nat} (hi : i < 64) :
    (padBlock s).buf[i] = (s.buffered ++ [0x80] ++ List.replicate n 0).getD i 0 := by
  have hpad : s.buffered ++ [0x80] = (s.buf.set s.nb.val 0x80 s.nb.isLt).toList.take (s.nb.val + 1) := by
    rw [State.buffered, take_set_toList]
  have hlen : (s.buffered ++ [(0x80 : Byte)]).length = s.nb.val + 1 := by
    rw [List.length_append, buffered_length, List.length_singleton]
  simp only [padBlock_buf, zeroFrom_get _ _ _ hi]
  split
  · rw [List.getD_append_right _ _ _ _ (by omega), getD_replicate_zero]
  · rw [List.getD_append _ _ _ _ (by omega), hpad, List.getD_eq_getElem?_getD, List.getElem?_take_of_lt (by omega)]
    simp [hi]

/-- The padded tail is as long as the table of R84 has it. -/
theorem paddedTail_length {tail : List Byte} (l : Length) (h : tail.length < 64) :
    (paddedTail tail l).length = if tail.length ≤ 31 then 64 else 128 := by
  rw [paddedTail]
  split <;> simp only [List.length_append, List.length_replicate, List.length_singleton, lenBytes_length] <;> omega

/-- The last block: what stands in the lower half, then the length field (R36). -/
theorem blockAt_append_lenBytes {bs : List Byte} (l : Length) {blk : Block} (hlen : bs.length = 32)
    (h : ∀ i (hi : i < 64), i < 32 → blk[i] = bs.getD i 0) : blockAt (bs ++ lenBytes l) 0 = writeLength l blk := by
  refine Vector.ext fun i hi => ?_
  rw [blockAt_getElem _ _ hi, Nat.mul_zero, Nat.zero_add, writeLength_get _ _ _ hi]
  split
  · rw [List.getD_append_right _ _ _ _ (by omega), hlen, lenBytes_getD _ (by omega)]
  · next hlt =>
    rw [List.getD_append _ _ _ _ (by omega), h i hi (by omega)]

/-- The blocks of the padded tail: that of the pad byte, with the length field in it or with a block of its own behind it
(R84). -/
theorem blocksOf_paddedTail (s : State) :
    blocksOf (paddedTail s.buffered s.len) =
      if s.nb.val ≤ 31 then [writeLength s.len (padBlock s).buf]
      else [(padBlock s).buf, writeLength s.len (Vector.replicate 64 0)] := by
  rw [paddedTail, buffered_length]
  split
  · next hfit =>
    have hlen : (s.buffered ++ [(0x80 : Byte)] ++ List.replicate (31 - s.nb.val) 0).length = 32 := by
      simp only [List.length_append, buffered_length, List.length_singleton, List.length_replicate]
      omega
    rw [blocksOf_of_single (by rw [List.length_append, hlen, lenBytes_length]),
      blockAt_append_lenBytes s.len hlen fun i hi _ => padBlock_buf_getElem s _ hi]
  · next hspill =>
    have hlen : (s.buffered ++ [(0x80 : Byte)] ++ List.replicate (63 - s.nb.val) 0).length = 64 := by
      simp only [List.length_append, buffered_length, List.length_singleton, List.length_replicate]
      omega
    have hfirst : blockAt (s.buffered ++ [0x80] ++ List.replicate (63 - s.nb.val) 0) 0 = (padBlock s).buf := by
      refine Vector.ext fun i hi => ?_
      rw [blockAt_getElem _ _ hi, Nat.mul_zero, Nat.zero_add, padBlock_buf_getElem s _ hi]
    have hnone : leftover (s.buffered ++ [0x80] ++ List.replicate (63 - s.nb.val) 0) = [] :=
      List.eq_nil_of_length_eq_zero (by rw [leftover_length, hlen])
    have hlast : blockAt (List.replicate 32 0 ++ lenBytes s.len) 0 = writeLength s.len (Vector.replicate 64 0) :=
      blockAt_append_lenBytes s.len List.length_replicate fun i hi _ => by
        rw [Vector.getElem_replicate, getD_replicate_zero]
    rw [List.append_assoc _ (List.replicate 32 0), blocksOf_append, hnone, List.nil_append,
      blocksOf_of_single (by rw [hlen]),
      blocksOf_of_single (by rw [List.length_append, List.length_replicate, lenBytes_length]), hfirst, hlast,
      List.singleton_append]

/-- FINAL folds `Compress` over the blocks of the padded tail (R83, R84). -/
theorem finishMessage_hash (s : State) :
    (finishMessage s).hash = compressBlocks (blocksOf (paddedTail s.buffered s.len)) s.hash := by
  have hlast : (finishMessage s).hash =
      compress (writeLength s.len (spillPadding (padBlock s)).buf) (spillPadding (padBlock s)).hash := by
    rw [finishMessage_eq, ← runCore_hash_eq_compress { spillPadding (padBlock s) with
      buf := writeLength s.len (spillPadding (padBlock s)).buf }]
  rw [hlast, blocksOf_paddedTail]
  rcases spillPadding_cases (padBlock s) with ⟨hspill, heq⟩ | ⟨hfit, heq⟩
  · rw [padBlock_nb] at hspill
    rw [heq, if_neg (by omega), runCore_hash_eq_compress, padBlock_hash]
    rfl
  · rw [padBlock_nb] at hfit
    rw [heq, if_pos (by omega), padBlock_hash, compressBlocks_singleton]

/-- FINAL in ABSORB ends the message (R83). -/
theorem exec_final {s : State} (hp : s.phase = .absorb) : exec .final s = .next (respond false 0 (finishMessage s)) :=
  exec_succeeds rfl hp rfl

/-- Settles O41: the hash is `finishMessage_hash`; in DONE and in ERROR R91's table has a code for FINAL. -/
theorem finalCompressesPaddedBlocks : Obligations.FinalCompressesPaddedBlocks := by
  unfold Obligations.FinalCompressesPaddedBlocks
  intro s
  refine ⟨fun hp => ⟨_, exec_final hp, finishMessage_hash s, fun i => ?buf, finishMessage_nb s, finishMessage_phase s, ?frame⟩,
    fun h => exec_latches (c := .finalTwice) rfl h nofun rfl rfl, fun h => exec_rejected rfl h rfl⟩
  case buf =>
    rw [respond_buf, finishMessage_buf]
    exact Vector.getElem_replicate i.isLt
  case frame =>
    exact State.ext rfl (finishMessage_len s) rfl (finishMessage_nb s) (finishMessage_phase s) (finishMessage_errCode s) rfl
      (finishMessage_rst s) rfl (finishMessage_curHdr s) (finishMessage_curData s) (finishMessage_pending s)
      (by rw [respond_rsps, finishMessage_rsps])

end Sys2Proof.Machine

/-! SUPPORT. Runs of commands (R43, R58, R81): commands in two goes, a run of ABSORBs as one run of bytes, and the digest read
out. -/

namespace Sys2Proof.Machine

theorem execAll_cons {i : Instr} {is : List Instr} {s t : State} (h : exec i s = .next t) :
    execAll (i :: is) s = execAll is t := by
  simp only [execAll, h]

theorem execAll_append {is js : List Instr} {s t : State} (h : execAll is s = .next t) :
    execAll (is ++ js) s = execAll js t := by
  induction is generalizing s with
  | nil =>
    obtain rfl := Host.Outcome.next.inj h
    rfl
  | cons i is ih =>
    rw [List.cons_append]
    cases hexec : exec i s with
    | next u =>
      rw [execAll_cons hexec] at h ⊢
      exact ih h
    | fault r => cases r
    | refused r => simp only [execAll, hexec] at h; cases h

/-- A response is nothing to the bytes absorbed after it. -/
theorem absorbBytes_respond (err : Bool) (data : Word) (bs : List Byte) (s : State) :
    absorbBytes bs (respond err data s) = respond err data (absorbBytes bs s) := by
  rw [respond_eq_withPorts, absorbBytes_withPorts, respond_eq_withPorts, absorbBytes_pending, absorbBytes_rsps]

/-- A well-formed ABSORB absorbs the bytes it carries (R37, R81). -/
theorem exec_of_isAbsorb {i : Instr} {s : State} (hi : isAbsorb i = true) (hp : s.phase = .absorb) :
    exec i s = .next (respond false 0 (absorbBytes (messageBytes i) s)) := by
  cases i with
  | absorb cnt data => exact exec_succeeds hi hp rfl
  | init | final | rddig | rdstat | rdlen | wrlen => cases hi

/-- A run of ABSORBs absorbs the bytes they carry, as one sequence, and responds once a command. -/
theorem execAll_absorbs {is : List Instr} {s : State} (his : is.all isAbsorb = true) (hp : s.phase = .absorb) :
    execAll is s = .next ((respond false 0)^[is.length] (absorbBytes (is.flatMap messageBytes) s)) := by
  induction is generalizing s with
  | nil => rfl
  | cons i is ih =>
    rw [List.all_cons, Bool.and_eq_true] at his
    obtain ⟨hi, his⟩ := his
    rw [execAll_cons (exec_of_isAbsorb hi hp), ih his (by rw [respond_phase, absorbBytes_phase, hp]), absorbBytes_respond,
      List.flatMap_cons, absorbBytes_append, List.length_cons, Function.iterate_succ_apply]

/-- Successes with nothing to read add their responses, and drop BUSY if there is one. -/
theorem iterate_respond_eq (n : Nat) (s : State) :
    (respond false 0)^[n] s =
      { s with busy := ((respond false 0)^[n] s).busy, rsps := s.rsps ++ List.replicate n { err := false, data := 0 } } := by
  induction n generalizing s with
  | zero => rw [List.replicate_zero, List.append_nil]; rfl
  | succ n ih =>
    rw [Function.iterate_succ_apply, ih, respond_rsps, List.append_assoc, List.singleton_append, ← List.replicate_succ]
    rfl

/-- Settles O55: both runs absorb the same bytes (`execAll_absorbs`), and their responses touch BUSY and the record alone. -/
theorem absorbChunkingInvariance : Obligations.AbsorbChunkingInvariance := by
  unfold Obligations.AbsorbChunkingInvariance
  intro is js s his hjs hbytes hp
  refine ⟨_, _, execAll_absorbs his hp, execAll_absorbs hjs hp, ?_⟩
  rw [hbytes, iterate_respond_eq js.length, iterate_respond_eq is.length]

/-- A field that a response leaves alone, responses leave alone. -/
theorem iterate_respond_keeps {α : Type} (f : State → α) (hf : ∀ s, f (respond false 0 s) = f s) (n : Nat) (s : State) :
    f ((respond false 0)^[n] s) = f s := by
  induction n generalizing s with
  | zero => rfl
  | succ n ih => rw [Function.iterate_succ_apply, ih, hf]

@[simp] theorem iterate_respond_hash (n : Nat) (s : State) : ((respond false 0)^[n] s).hash = s.hash :=
  iterate_respond_keeps (·.hash) (by simp) n s
@[simp] theorem iterate_respond_len (n : Nat) (s : State) : ((respond false 0)^[n] s).len = s.len :=
  iterate_respond_keeps (·.len) (by simp) n s
@[simp] theorem iterate_respond_nb (n : Nat) (s : State) : ((respond false 0)^[n] s).nb = s.nb :=
  iterate_respond_keeps (·.nb) (by simp) n s
@[simp] theorem iterate_respond_phase (n : Nat) (s : State) : ((respond false 0)^[n] s).phase = s.phase :=
  iterate_respond_keeps (·.phase) (by simp) n s
@[simp] theorem iterate_respond_errCode (n : Nat) (s : State) : ((respond false 0)^[n] s).errCode = s.errCode :=
  iterate_respond_keeps (·.errCode) (by simp) n s
@[simp] theorem iterate_respond_buffered (n : Nat) (s : State) : ((respond false 0)^[n] s).buffered = s.buffered :=
  iterate_respond_keeps (·.buffered) (by simp) n s

theorem iterate_respond_rsps (n : Nat) (s : State) :
    ((respond false 0)^[n] s).rsps = s.rsps ++ List.replicate n { err := false, data := 0 } := by
  rw [iterate_respond_eq]

/-- Settles O56: the run absorbs its bytes as one sequence (`execAll_absorbs`), and its responses touch neither counter. -/
theorem absorbRunAdvancesLengthAndCount : Obligations.AbsorbRunAdvancesLengthAndCount := by
  unfold Obligations.AbsorbRunAdvancesLengthAndCount
  intro is s his hp
  refine ⟨_, execAll_absorbs his hp, ?_, ?_, ?_, ?_⟩
  · rw [iterate_respond_phase, absorbBytes_phase, hp]
  · rw [iterate_respond_errCode, absorbBytes_errCode]
  · rw [iterate_respond_len, absorbBytes_len]
  · rw [iterate_respond_nb, absorbBytes_nb]

/-- The state that INIT and a run of ABSORBs leave: of the bytes they carry, the complete blocks are in H and the rest in BUF
(R29 item 4), and L counts them all. -/
theorem execAll_message {is : List Instr} (s : State) (his : is.all isAbsorb = true) :
    ∃ t, execAll (.init :: is) s = .next t ∧ t.phase = .absorb ∧ t.errCode = .none ∧
      t.hash = compressBlocks (blocksOf (is.flatMap messageBytes)) (Vector.replicate 8 0) ∧
      t.buffered = leftover (is.flatMap messageBytes) ∧
      t.len = BitVec.ofNat 256 (8 * (is.flatMap messageBytes).length) ∧
      t.rsps = s.rsps ++ List.replicate (is.length + 1) { err := false, data := 0 } := by
  have hempty : (respond false 0 (clearAccumulator s)).buffered = [] := rfl
  obtain ⟨hhash, hbuf⟩ := absorbBytes_blocks (is.flatMap messageBytes) (respond false 0 (clearAccumulator s))
  rw [hempty, List.nil_append] at hhash hbuf
  refine ⟨_, (execAll_cons (exec_init s)).trans (execAll_absorbs his rfl), ?phase, ?errCode, ?hash, ?buf, ?len, ?rsps⟩
  case phase => rw [iterate_respond_phase, absorbBytes_phase]; rfl
  case errCode => rw [iterate_respond_errCode, absorbBytes_errCode]; rfl
  case hash => rw [iterate_respond_hash, hhash]; rfl
  case buf => rw [iterate_respond_buffered, hbuf]
  case len =>
    rw [iterate_respond_len, absorbBytes_len, respond_len, clearAccumulator_len]
    exact BitVec.zero_add _
  case rsps =>
    rw [iterate_respond_rsps, absorbBytes_rsps, respond_rsps, clearAccumulator_rsps, List.append_assoc,
      List.singleton_append, ← List.replicate_succ]

/-- Settles O57: the hash and the buffered bytes of `execAll_message`. -/
theorem absorbedMessageState : Obligations.AbsorbedMessageState := by
  unfold Obligations.AbsorbedMessageState
  intro is s his
  obtain ⟨t, hexec, -, -, hhash, hbuf, -, -⟩ := execAll_message s his
  exact ⟨t, hexec, hhash, hbuf⟩

/-- Settles O59: the state before FINAL is `execAll_message`'s, FINAL's blocks are those of the padded tail, and their number is
decided by how many bytes are left over. -/
theorem compressionCountOfMessage : Obligations.CompressionCountOfMessage := by
  unfold Obligations.CompressionCountOfMessage
  intro is s his
  obtain ⟨t, hexec, hp, -, hhash, hbuf, -, -⟩ := execAll_message s his
  have hleft : t.buffered.length = (is.flatMap messageBytes).length % 64 := by rw [hbuf, leftover_length]
  refine ⟨t, _, hexec, exec_final hp, blocksOf_length _, hhash, ?count, finishMessage_hash t, finishMessage_phase t⟩
  case count =>
    rw [blocksOf_length, paddedTail_length _ (by omega), hleft]
    split <;> rfl

/-! ABSORBSTR and DIGEST, the parts that HASH expands to (R58). -/

theorem byteOf_packBytes (bs : List Byte) {k : Nat} (h : k < 8) : byteOf (packBytes bs) k = bs.getD k 0 := by
  rw [packBytes, byteOf_be64 _ _ _ _ _ _ _ _ ⟨k, h⟩]
  interval_cases k <;> rfl

/-- Bytes packed into a data operand are the bytes ABSORB takes from it (R37, R58). -/
theorem chunkBytes_packBytes {cnt : BitVec 4} {bs : List Byte} (h8 : cnt.toNat ≤ 8) (hbs : cnt.toNat ≤ bs.length) :
    chunkBytes cnt (packBytes bs) = bs.take cnt.toNat := by
  refine List.ext_getElem (by rw [chunkBytes_length, List.length_take, min_eq_left hbs]) fun k hk hk' => ?_
  rw [chunkBytes_length] at hk
  simp only [chunkBytes, List.getElem_map, List.getElem_range, List.getElem_take]
  rw [byteOf_packBytes bs (by omega), List.getD_eq_getElem _ _ (by omega)]

/-- A sequence cut into pieces of eight bytes. -/
theorem flatMap_take_eight (m : List Byte) (n : Nat) :
    (List.range n).flatMap (fun j => (m.drop (8 * j)).take 8) = m.take (8 * n) := by
  induction n with
  | zero => rfl
  | succ n ih =>
    rw [List.range_succ, List.flatMap_append, ih, List.flatMap_singleton, Nat.mul_succ, List.take_add]

/-- Settles O58: each command of eight bytes carries its piece of the message, and the last one the rest. -/
theorem absorbStrCarriesMessage : Obligations.AbsorbStrCarriesMessage := by
  unfold Obligations.AbsorbStrCarriesMessage
  intro m
  have hrest : (BitVec.ofNat 4 (m.length % 8)).toNat = m.length % 8 := by
    rw [BitVec.toNat_ofNat]
    omega
  have heights : ((List.range (m.length / 8)).map fun j => Instr.absorb 8 (packBytes (m.drop (8 * j)))).flatMap messageBytes =
      m.take (8 * (m.length / 8)) := by
    rw [List.flatMap_map, ← flatMap_take_eight]
    refine List.flatMap_congr fun j hj => chunkBytes_packBytes (cnt := 8) (by decide) ?_
    have hlt := List.mem_range.mp hj
    have h8 : (8 : BitVec 4).toNat = 8 := rfl
    rw [List.length_drop, h8]
    omega
  refine ⟨?wf, ?bytes⟩
  case wf =>
    rw [absorbStr, List.all_append, Bool.and_eq_true]
    refine ⟨List.all_eq_true.mpr fun i hi => ?_, ?_⟩
    · obtain ⟨j, -, rfl⟩ := List.mem_map.mp hi
      rfl
    · split
      · rfl
      · simp only [List.all_cons, List.all_nil, Bool.and_true, isAbsorb, Instr.wf, hrest, decide_eq_true_eq]
        omega
  case bytes =>
    rw [absorbStr, List.flatMap_append, heights]
    split
    · next h =>
      rw [List.flatMap_nil, List.append_nil, List.take_of_length_le (by omega)]
    · next h =>
      have hlen : (m.drop (8 * (m.length / 8))).length = m.length % 8 := by rw [List.length_drop]; omega
      rw [List.flatMap_singleton, messageBytes, chunkBytes_packBytes (by omega) (by omega), hrest, ← hlen, List.take_length,
        List.take_append_drop]

/-- The words of H in the order DIGEST reads them. -/
theorem toList_eq_map_selectWord (h : Words) : h.toList = (List.range 8).map fun i => selectWord h (BitVec.ofNat 3 i) := by
  refine List.ext_getElem (by simp) fun i hi _ => ?_
  have hi8 : i < 8 := by simpa using hi
  have hidx : (BitVec.ofNat 3 i).toNat = i := by rw [BitVec.toNat_ofNat]; omega
  rw [List.getElem_map, List.getElem_range, Vector.getElem_toList, selectWord]
  simp only [hidx]

/-- A run of RDDIGs in DONE answers the selected words and leaves the digest (R87). -/
theorem execAll_rddigs {idxs : List (BitVec 3)} {s : State} (hp : s.phase = .done) :
    ∃ t, execAll (idxs.map .rddig) s = .next t ∧ t.hash = s.hash ∧ t.phase = .done ∧ t.errCode = s.errCode ∧
      t.rsps = s.rsps ++ idxs.map fun idx => { err := false, data := selectWord s.hash idx } := by
  induction idxs generalizing s with
  | nil => exact ⟨s, rfl, rfl, hp, rfl, (List.append_nil _).symm⟩
  | cons idx idxs ih =>
    have hexec : exec (.rddig idx) s = .next (respond false (selectWord s.hash idx) s) := exec_succeeds rfl hp rfl
    obtain ⟨t, hrun, hhash, hphase, hcode, hrsps⟩ := ih (s := respond false (selectWord s.hash idx) s) hp
    refine ⟨t, (execAll_cons hexec).trans hrun, hhash, hphase, hcode, ?_⟩
    rw [hrsps, respond_rsps, respond_hash, List.append_assoc, List.singleton_append, List.map_cons]

/-- DIGEST answers the eight words of H in order (R58). -/
theorem execAll_digestCommands {s : State} (hp : s.phase = .done) :
    ∃ t, execAll digestCommands s = .next t ∧ t.hash = s.hash ∧ t.phase = .done ∧ t.errCode = s.errCode ∧
      t.rsps = s.rsps ++ s.hash.toList.map fun w => { err := false, data := w } := by
  have hread := execAll_rddigs (idxs := (List.range 8).map (BitVec.ofNat 3)) hp
  rw [List.map_map, List.map_map] at hread
  rw [toList_eq_map_selectWord, List.map_map]
  exact hread

/-- The digest is reached in the two parts that the commands take: the complete blocks, then the padded rest (R84). -/
theorem whirlpool_eq (m : List Byte) :
    whirlpool m = compressBlocks (blocksOf (paddedTail (leftover m) (BitVec.ofNat 256 (8 * m.length))))
      (compressBlocks (blocksOf m) (Vector.replicate 8 0)) := by
  have hpadded : paddedMessage m =
      m.take (64 * (m.length / 64)) ++ paddedTail (leftover m) (BitVec.ofNat 256 (8 * m.length)) := rfl
  rw [whirlpool, hpadded, blocksOf_append, leftover_take, List.nil_append, blocksOf_take, compressBlocks_append]

/-- Settles O60: INIT and the ABSORBs leave the message's blocks and rest (`execAll_message`), FINAL folds in the padded rest
(`finishMessage_hash`), and DIGEST reads the words out (`execAll_digestCommands`). -/
theorem hashCommandsComputeWhirlpool : Obligations.HashCommandsComputeWhirlpool := by
  unfold Obligations.HashCommandsComputeWhirlpool
  intro m s
  obtain ⟨hwf, hbytes⟩ := absorbStrCarriesMessage m
  obtain ⟨t, hmessage, hp, hcode, hhash, hbuf, hlen, hrsps⟩ := execAll_message s hwf
  rw [hbytes] at hhash hbuf hlen
  have hdigest : (finishMessage t).hash = whirlpool m := by
    rw [finishMessage_hash, hhash, hbuf, hlen, whirlpool_eq]
  obtain ⟨u, hread, huhash, huphase, hucode, hursps⟩ :=
    execAll_digestCommands (s := respond false 0 (finishMessage t)) (finishMessage_phase t)
  refine ⟨u, ?run, huhash.trans hdigest, huphase, ?errCode, ?rsps⟩
  case run =>
    have hfinal : execAll (.final :: digestCommands) t = .next u := (execAll_cons (exec_final hp)).trans hread
    exact (execAll_append hmessage).trans hfinal
  case errCode => rw [hucode, respond_errCode, finishMessage_errCode, hcode]
  case rsps =>
    rw [hursps, respond_rsps, finishMessage_rsps, hrsps, respond_hash, hdigest, List.append_assoc s.rsps,
      ← List.replicate_succ']

end Sys2Proof.Machine
